-- ==== Sys2Proof/Word.lean ====
section
/-! DEFINITION. The bit vectors of the block, at the widths of 00_scope.md R7 and 10_state.md R10. -/

namespace Sys2Proof

/-- 32 bits: the operand field, `pulse_duration`, `timer`, `steps_left`, `rsp_data` (R7: `PW`, `CW`, `SW`). -/
abbrev Word := BitVec 32

/-- A command word `cmd[35:0]` (R7: `CMDW`, R55). -/
abbrev CmdWord := BitVec 36

/-- The opcode field `cmd[35:32]` (R55). -/
abbrev Opcode := BitVec 4

/-- One bit per pin (R7: `NPIN`); bit 0 = A, 1 = B, 2 = C, 3 = D, 4 = EN0, 5 = EN1 (R13, R41). -/
abbrev PinVec := BitVec 6

/-- `phase_state`: two bits, so exactly the four values of R14. -/
abbrev Phase := BitVec 2

end Sys2Proof
end

