-- ==== Sys2Proof/Config.lean ====
section
/-! DEFINITION. The open parameters of 00_scope.md R7. Neither has a value in the spec, so neither has a body here
(D2, U8; assumption 7); no rule of state change reads them. -/

namespace Sys2Proof

/-- `T_CLK`, the period of `clk` in seconds (R7). DESIGN CHOICE: a rational number. -/
opaque Config.tClk : Rat

/-- `MIN_PULSE_CYCLES`, the least dwell in cycles that the external driver and motor follow (R7, R153). -/
opaque Config.minPulseCycles : Nat

end Sys2Proof
end

