-- ==== Sys2Proof/Syntax.lean ====
section
/-! DEFINITION. The nine commands (30_encoding.md R56, R64) and the assembler's syntax for them (R62, R63). -/

namespace Sys2Proof

/-- The commands: one constructor per row of the opcode table. HOLDON, HOLDOFF, GETPD and RELEASE carry no operand:
their `imm` is ignored (R58; assumption 9). -/
inductive Instr where
  | create1 (imm : Word)
  | create2 (imm : Word)
  | stepf (imm : Word)
  | stepb (imm : Word)
  | holdon
  | holdoff
  | setpd (imm : Word)
  | getpd
  | release
  deriving DecidableEq, Repr

/-- One command as the assembler writes it (R62): a mnemonic and a number, decimal or hexadecimal; a count may carry a
minus sign. STEP1F and STEP1B are the pseudo-commands of R63. -/
inductive AsmCommand where
  | create1 (duration : Nat)
  | create2 (duration : Nat)
  | stepf (count : Int)
  | stepb (count : Int)
  | step1f
  | step1b
  | holdon
  | holdoff
  | setpd (duration : Nat)
  | getpd
  | release
  deriving DecidableEq, Repr

/-- One line of a program listing (R62): a command, with the collaborator's answers that stand at the edge that accepts
it, or `WAIT k`, which is no command. -/
inductive ListingLine where
  | command (c : AsmCommand) (acqOk relOk : PinVec)
  | wait (k : Nat)
  deriving DecidableEq, Repr

end Sys2Proof
end

