-- ==== Sys2Proof/WellFormed.lean ====
section
/-! DEFINITION. What can be ill-formed: a command word whose opcode is reserved (30_encoding.md R59) and an assembler
operand that does not fit its field (R57). A term of `Instr` cannot be: every 32-bit operand is legal for every command
that has one (R57: "no value is rejected", a count below 1 is a warning and no illegal encoding, R59). -/

namespace Sys2Proof

/-- The opcodes 0x1 to 0x9 are assigned; 0x0 and 0xA to 0xF are reserved (R56, R59). -/
def Opcode.assigned (op : Opcode) : Bool := decide (1 ≤ op.toNat) && decide (op.toNat ≤ 9)

/-- A command word is well-formed when its `op` field is assigned; its `imm` field may hold anything (R57, R58). -/
def CmdWord.wellFormed (w : CmdWord) : Bool := Opcode.assigned (w.extractLsb' 32 4)

/-- A pulse duration is 0 to 2^32 - 1 (R57(a)). -/
def durationFits (d : Nat) : Bool := decide (d < 2 ^ 32)

/-- A count is -2^31 to 2^31 - 1 (R57(b)). -/
def countFits (n : Int) : Bool := decide (-2 ^ 31 ≤ n) && decide (n < 2 ^ 31)

/-- The operand of an assembler line fits its 32-bit field (R57, R62). -/
def AsmCommand.wellFormed : AsmCommand → Bool
  | .create1 d => durationFits d
  | .create2 d => durationFits d
  | .stepf n => countFits n
  | .stepb n => countFits n
  | .step1f => true
  | .step1b => true
  | .holdon => true
  | .holdoff => true
  | .setpd d => durationFits d
  | .getpd => true
  | .release => true

/-- No command is ill-formed as syntax (R57, R58): the field widths are in the types. -/
def Instr.wellFormed : Instr → Bool
  | .create1 _ => true
  | .create2 _ => true
  | .stepf _ => true
  | .stepb _ => true
  | .holdon => true
  | .holdoff => true
  | .setpd _ => true
  | .getpd => true
  | .release => true

end Sys2Proof
end

