-- ==== Sys2Proof/Decode.lean ====
section
/-! DEFINITION. The command word CMD36: fields (30_encoding.md R55), the decoder, total on all 2^36 words (R56, R61),
the encoder and the assembler (R62, R63). -/

namespace Sys2Proof

/-- Why a word is no command: its opcode is reserved (R59). What the machine then does is Machine/Ops.lean's
`reservedOpcode`. -/
inductive DecodeError where
  | reservedOpcode (op : Opcode)
  deriving DecidableEq, Repr

/-- What decoding a word gives: a command or the reason there is none. -/
inductive Decoded where
  | command (i : Instr)
  | rejected (e : DecodeError)
  deriving DecidableEq, Repr

/-- `op` = `cmd[35:32]` (R55). -/
def opField (w : CmdWord) : Opcode := w.extractLsb' 32 4

/-- `imm` = `cmd[31:0]`, used whole (R55, R57). -/
def immField (w : CmdWord) : Word := w.extractLsb' 0 32

/-- `op` alone selects the command (R56); every other opcode is reserved (R59). -/
def decode (w : CmdWord) : Decoded :=
  let op := opField w
  let imm := immField w
  if op = 0x1#4 then .command (.create1 imm)
  else if op = 0x2#4 then .command (.create2 imm)
  else if op = 0x3#4 then .command (.stepf imm)
  else if op = 0x4#4 then .command (.stepb imm)
  else if op = 0x5#4 then .command .holdon
  else if op = 0x6#4 then .command .holdoff
  else if op = 0x7#4 then .command (.setpd imm)
  else if op = 0x8#4 then .command .getpd
  else if op = 0x9#4 then .command .release
  else .rejected (.reservedOpcode op)

/-- The opcode of a command (R56). -/
def Instr.opcode : Instr → Opcode
  | .create1 _ => 0x1#4
  | .create2 _ => 0x2#4
  | .stepf _ => 0x3#4
  | .stepb _ => 0x4#4
  | .holdon => 0x5#4
  | .holdoff => 0x6#4
  | .setpd _ => 0x7#4
  | .getpd => 0x8#4
  | .release => 0x9#4

/-- The operand field of a command; the assembler writes zeros where the operand is ignored (R58). -/
def Instr.operand : Instr → Word
  | .create1 imm => imm
  | .create2 imm => imm
  | .stepf imm => imm
  | .stepb imm => imm
  | .holdon => 0
  | .holdoff => 0
  | .setpd imm => imm
  | .getpd => 0
  | .release => 0

/-- A word from its two fields, `op` the more significant (R55). -/
def cmdWord (op : Opcode) (imm : Word) : CmdWord := op ++ imm

/-- The canonical word of a command (R55, R56, R58). -/
def encode (i : Instr) : CmdWord := cmdWord i.opcode i.operand

/-- The mask of every row, `0xF_00000000` (R56). -/
def opcodeMask : CmdWord := 0xF00000000#36

/-- The command an assembler line stands for (R62, R63): a negative count in two's complement, STEP1F as STEPF 1 and
STEP1B as STEPB 1. -/
def AsmCommand.instr : AsmCommand → Instr
  | .create1 d => .create1 (BitVec.ofNat 32 d)
  | .create2 d => .create2 (BitVec.ofNat 32 d)
  | .stepf n => .stepf (BitVec.ofInt 32 n)
  | .stepb n => .stepb (BitVec.ofInt 32 n)
  | .step1f => .stepf 1
  | .step1b => .stepb 1
  | .holdon => .holdon
  | .holdoff => .holdoff
  | .setpd d => .setpd (BitVec.ofNat 32 d)
  | .getpd => .getpd
  | .release => .release

/-- The word an assembler line assembles to (R62); none where the operand does not fit (R57). -/
def assemble (c : AsmCommand) : Option CmdWord :=
  if c.wellFormed then some (encode c.instr) else none

/-- The number `w`, of which the opcode table gives `nbits` bits, as a command word: none where a bit above
`cmd[35]` is set, since no such bit exists (R55; assumption 11). -/
def tableWord (nbits w : Nat) : Option CmdWord :=
  if w % 2 ^ nbits < 2 ^ 36 then some (BitVec.ofNat 36 (w % 2 ^ nbits)) else none

/-- What the decoder reads from the bits `w` of an opcode-table row; bit 0 is `cmd[0]` (R8, R46). -/
def decodeTableWord (nbits w : Nat) : Option Instr :=
  match tableWord nbits w with
  | some c =>
    match decode c with
    | .command i => some i
    | .rejected _ => none
  | none => none

end Sys2Proof
end

