-- ==== Sys2Proof/Machine/State.lean ====
section
/-! DEFINITION. The state record of 10_state.md R10, the port samples of R27, the reasons a step can stop (none), and
the reset state of 70_reset_and_hazards.md R140. -/

namespace Sys2Proof.Machine

/-- `life` (R11). The fourth 2-bit value never occurs (R10) and has no constructor (assumption 4). -/
inductive Life where
  | unbound | active | released
  deriving DecidableEq, Repr

/-- `direction` (R15). -/
inductive Direction where
  | forward | backward
  deriving DecidableEq, Repr

/-- `ctrl` (R19). -/
inductive Ctrl where
  | idle | pulse
  deriving DecidableEq, Repr

/-- `I_t`: the value of every input port during one cycle (R6, R27). -/
structure Input where
  /-- Synchronous reset, active high. -/
  rst : Bool
  /-- The host presents a command word this cycle. -/
  cmdValid : Bool
  /-- The command word. -/
  cmd : CmdWord
  /-- The collaborator's answer to acquisition, per pin, 1 = success. -/
  acqOk : PinVec
  /-- The collaborator's answer to release, per pin, 1 = success. -/
  relOk : PinVec
  deriving DecidableEq, Repr

/-- The registers of R10, in R10's order, and the model's own field `inputs`. -/
structure State where
  /-- Lifecycle state of the engine (R11). -/
  life : Life
  /-- Which create variant was executed: false one enable pin, true two (R12). -/
  twoEn : Bool
  /-- Bit i: pin i is owned and driven (R13). -/
  pinOwn : PinVec
  /-- Position in the commutation table (R14). -/
  phaseState : Phase
  /-- Direction of the current or latest step command (R15). -/
  direction : Direction
  /-- The enable lines stay asserted after a step command (R16). -/
  holdEnabled : Bool
  /-- Cycles of blocking in one repetition (R17). -/
  pulseDuration : Word
  /-- The level of every owned enable pin (R18). -/
  enLvl : Bool
  /-- Whether a step command is in progress (R19). -/
  ctrl : Ctrl
  /-- Cycles that remain of the current repetition's pulse; hidden (R20). -/
  timer : Word
  /-- Repetitions that have not yet started; hidden (R21). -/
  stepsLeft : Word
  /-- Bit i: acquisition of pin i was attempted and failed (R22). -/
  acqFail : PinVec
  /-- Bit i: release of pin i was attempted and failed (R23). -/
  relFail : PinVec
  /-- Sticky: an invalid step count was reported (R24). -/
  warn : Bool
  /-- Sticky fault bit: a reserved opcode was accepted (R25). -/
  eIllegal : Bool
  /-- Sticky fault bit: a command was accepted in a state that forbids it (R25). -/
  eLife : Bool
  /-- A command completed at the latest edge (R26). -/
  rspValid : Bool
  /-- Report code (R26, R120). -/
  rspCode : BitVec 4
  /-- Report data (R26). -/
  rspData : Word
  /-- The model's own field, no register (DESIGN CHOICE, assumption 1): the samples of the input ports, the head that of
  the current cycle, the rest those of the cycles to come. -/
  inputs : List Input
  deriving DecidableEq, Repr

/-- Why a step could stop with a fault: nothing. `Step` is total (R147) and the block does not halt after a fault
(R125); the spec's faults are sticky bits and reports, that is next states (assumption 12). -/
inductive Fault : Type where
  deriving DecidableEq, Repr

/-- Why a step could have no meaning. -/
inductive Refusal where
  /-- Raised by an arm of `exec` for a command that has no meaning yet: safe, the machine stops. No arm raises it. -/
  | notModelled (mnemonic : String)
  deriving DecidableEq, Repr

/-- The state right after reset (R140). No sample of the ports is listed (DESIGN CHOICE, assumptions 2 and 3). -/
def State.reset : State where
  life := .unbound
  twoEn := false
  pinOwn := 0
  phaseState := 0
  direction := .forward
  holdEnabled := false
  pulseDuration := 0
  enLvl := false
  ctrl := .idle
  timer := 0
  stepsLeft := 0
  acqFail := 0
  relFail := 0
  warn := false
  eIllegal := false
  eLife := false
  rspValid := false
  rspCode := 0
  rspData := 0
  inputs := []

end Sys2Proof.Machine
end

