-- ==== Sys2Proof/Machine/Operands.lean ====
section
/-! DEFINITION. How the operand `imm` is read (30_encoding.md R57), and the sample of the input ports that a command
reads (10_state.md R27). -/

namespace Sys2Proof.Machine

/-- A pulse duration is `imm` unchanged, unsigned (R57(a)). -/
def durationOperand (imm : Word) : Word := imm

/-- `n = signed_32(imm)`, two's complement (R57(b)). -/
def countOperand (imm : Word) : Int := imm.toInt

/-- The count guard's condition `n < 1` (R90). -/
def countBelowOne (imm : Word) : Bool := decide (countOperand imm < 1)

/-- The repetitions still to start once the first has (R57(b), R81); used only where `n ≥ 1`, so it never borrows. -/
def repetitionsAfterFirst (imm : Word) : Word := imm - 1

/-- `zext_32` of a per-pin vector (R8). -/
def zext32 (v : PinVec) : Word := v.setWidth 32

/-- The ports of a host that presents nothing: `cmd_valid` = 0 and `rst` = 0, so the other three are ignored (R60).
Their values here are read by `State.presentWord` alone (assumption 3). -/
def Input.idle : Input where
  rst := false
  cmdValid := false
  cmd := 0
  acqOk := 0b111111#6
  relOk := 0b111111#6

/-- The sample of the current cycle; a host whose samples are used up presents nothing (DESIGN CHOICE, assumption 2). -/
def State.input (s : State) : Input := s.inputs.headD Input.idle

/-- The sample of the cycle that is `k` cycles ahead. -/
def State.inputAt (s : State) (k : Nat) : Input := s.inputs.getD k Input.idle

end Sys2Proof.Machine
end

