-- ==== Sys2Proof/Machine/Flags.lean ====
section
/-! DEFINITION. The report codes (60_exceptions.md R120), the sticky bits (10_state.md R24, R25), and the response
registers (R26). -/

namespace Sys2Proof.Machine

/-- The report codes of R120; 0x8 to 0xF are never produced. -/
inductive ReportCode where
  | ok | wCount | eAcq | eRel | eIllegal | eNotCreated | eAlreadyCreated | eReleased
  deriving DecidableEq, Repr

/-- The code's number on `rsp_code` (R120). -/
def ReportCode.bits : ReportCode → BitVec 4
  | .ok => 0x0#4
  | .wCount => 0x1#4
  | .eAcq => 0x2#4
  | .eRel => 0x3#4
  | .eIllegal => 0x4#4
  | .eNotCreated => 0x5#4
  | .eAlreadyCreated => 0x6#4
  | .eReleased => 0x7#4

/-- The two fault bits (R25). -/
inductive FaultBit where
  | illegal | life
  deriving DecidableEq, Repr

/-- `report(code, data)` (R8, R26): the response registers and nothing else. -/
def State.report (s : State) (code : ReportCode) (data : Word) : State :=
  { s with rspValid := true, rspCode := code.bits, rspData := data }

/-- The default of every edge at which no command completes: `rsp_valid <- 0`, the code and the data kept (R26). -/
def State.noReport (s : State) : State := { s with rspValid := false }

/-- Set one fault bit (R25); none is ever cleared but by reset. -/
def State.setFault (s : State) : FaultBit → State
  | .illegal => { s with eIllegal := true }
  | .life => { s with eLife := true }

/-- `warn <- 1` (R24). -/
def State.setWarn (s : State) : State := { s with warn := true }

/-- "No fault recorded" (R125): `warn`, `acq_fail` and `rel_fail` are no part of it. -/
def State.noFaultRecorded (s : State) : Bool := !s.eIllegal && !s.eLife

end Sys2Proof.Machine
end

