-- ==== Sys2Proof/Machine/Ops.lean ====
section
/-! DEFINITION. The shared operations: recording a fault, the lifecycle check, construction, the phase step, the start
of a step command, hold, release. A meaning is one of these behind the checks of 30_encoding.md R61. -/

namespace Sys2Proof.Machine

/-! ## Faults

The block's only form of taking an exception: a sticky bit and a report. It saves nothing, changes no mode and sends
control nowhere, and there is no return from it (60_exceptions.md R122, R128, R129). -/

/-- Record a fault and report it with data 0; no other register changes (R59, R123). -/
def takeFault (bit : FaultBit) (code : ReportCode) (s : State) : State := (s.setFault bit).report code 0

/-- The reserved-opcode fault, in any lifecycle state (R59, R124). -/
def reservedOpcode (s : State) : State := takeFault .illegal .eIllegal s

/-- The lifecycle check of R123: the code of the violation, or none where the command is allowed. -/
def lifeViolation (isCreate : Bool) : Life → Option ReportCode
  | .unbound => if isCreate then none else some .eNotCreated
  | .active => if isCreate then some .eAlreadyCreated else none
  | .released => some .eReleased

/-- A command with a known opcode: the lifecycle check before any other effect (R61, R123). -/
def checked (isCreate : Bool) (effect : State → State) (s : State) : Host.Outcome State Fault Refusal :=
  match lifeViolation isCreate s.life with
  | some code => .next (takeFault .life code s)
  | none => .next (effect s)

/-! ## Construction -/

/-- `att` (40_construction.md R70): A, B, C, D and EN0 always, EN1 when there are two enable pins. -/
def attempted (twoEn : Bool) : PinVec := if twoEn then 0b111111#6 else 0b011111#6

/-- The report of an operation that asked the collaborator per pin: the failures, or OK (R70, R110). -/
def State.reportFailures (s : State) (code : ReportCode) (failed : PinVec) : State :=
  if failed ≠ 0 then s.report code (zext32 failed) else s.report .ok 0

/-- `Create(m, imm, acq_ok)` (R70), with `acq_ok` sampled from the ports at the accepting edge. -/
def create (twoEn : Bool) (imm : Word) (s : State) : State :=
  let att := attempted twoEn
  let acqOk := s.input.acqOk
  let s' := { s with
    pinOwn := att &&& acqOk
    acqFail := att &&& ~~~acqOk
    twoEn := twoEn
    phaseState := 0
    direction := .forward
    holdEnabled := false
    enLvl := false
    pulseDuration := durationOperand imm
    life := .active }
  s'.reportFailures .eAcq (att &&& ~~~acqOk)

/-! ## Stepping -/

/-- `Next(ps, d)` (41_stepping.md R80): plus or minus 1 on two bits. -/
def nextPhase (ps : Phase) : Direction → Phase
  | .forward => ps + 1
  | .backward => ps - 1

/-- `StepStart(d, imm)` (R81): the first repetition and the set-up of the loop; no response at this edge. -/
def stepStart (d : Direction) (imm : Word) (s : State) : State :=
  { s.noReport with
    direction := d
    phaseState := nextPhase s.phaseState d
    enLvl := true
    timer := s.pulseDuration
    stepsLeft := repetitionsAfterFirst imm
    ctrl := .pulse }

/-- The guarded no-op of a count below 1 (R90). -/
def countWarning (s : State) : State := s.setWarn.report .wCount 0

/-- A step command in ACTIVE: the count guard, else the start (R61, R90, R81). -/
def stepCommand (d : Direction) (imm : Word) (s : State) : State :=
  if countBelowOne imm then countWarning s else stepStart d imm s

/-! ## Hold, configuration, release -/

/-- Set hold mode and the enable level together, at once (42_hold.md R100, R101). -/
def setHold (on : Bool) (s : State) : State := ({ s with holdEnabled := on, enLvl := on }).report .ok 0

/-- `pulse_duration <- imm` (43_config.md R105). -/
def setPulse (imm : Word) (s : State) : State := ({ s with pulseDuration := durationOperand imm }).report .ok 0

/-- Answer with `pulse_duration` (R106). -/
def getPulse (s : State) : State := s.report .ok s.pulseDuration

/-- Give every owned pin back (44_release.md R110), with `rel_ok` sampled at the accepting edge. -/
def releasePins (s : State) : State :=
  let failed := s.pinOwn &&& ~~~s.input.relOk
  ({ s with relFail := failed, pinOwn := 0, life := .released }).reportFailures .eRel failed

end Sys2Proof.Machine
end

