-- ==== Sys2Proof/Machine/Configuration.lean ====
section
/-! DEFINITION. The meanings of SETPD and GETPD (43_config.md). -/

namespace Sys2Proof.Machine

/-- SETPD (R105). -/
def execSetpd (imm : Word) (s : State) : Host.Outcome State Fault Refusal := checked false (setPulse imm) s

/-- GETPD (R106). -/
def execGetpd (s : State) : Host.Outcome State Fault Refusal := checked false getPulse s

end Sys2Proof.Machine
end

