-- ==== Sys2Proof/Machine/Construction.lean ====
section
/-! DEFINITION. The meanings of CREATE1 and CREATE2 (40_construction.md). -/

namespace Sys2Proof.Machine

/-- CREATE1 (R71). -/
def execCreate1 (imm : Word) (s : State) : Host.Outcome State Fault Refusal := checked true (create false imm) s

/-- CREATE2 (R72). -/
def execCreate2 (imm : Word) (s : State) : Host.Outcome State Fault Refusal := checked true (create true imm) s

end Sys2Proof.Machine
end

