-- ==== Sys2Proof/Machine/Hold.lean ====
section
/-! DEFINITION. The meanings of HOLDON and HOLDOFF (42_hold.md). -/

namespace Sys2Proof.Machine

/-- HOLDON (R100). -/
def execHoldon (s : State) : Host.Outcome State Fault Refusal := checked false (setHold true) s

/-- HOLDOFF (R101): the enable level drops at this edge (90_conflicts.md C1). -/
def execHoldoff (s : State) : Host.Outcome State Fault Refusal := checked false (setHold false) s

end Sys2Proof.Machine
end

