-- ==== Sys2Proof/Machine/Release.lean ====
section
/-! DEFINITION. The meaning of RELEASE (44_release.md). -/

namespace Sys2Proof.Machine

/-- RELEASE (R110). -/
def execRelease (s : State) : Host.Outcome State Fault Refusal := checked false releasePins s

end Sys2Proof.Machine
end

