-- ==== Sys2Proof/Machine/Stepping.lean ====
section
/-! DEFINITION. The meanings of STEPF and STEPB (41_stepping.md) at their accepting edge. The repetitions after the first
and the completion are Machine/Pulse.lean. -/

namespace Sys2Proof.Machine

/-- STEPF (R82). -/
def execStepf (imm : Word) (s : State) : Host.Outcome State Fault Refusal := checked false (stepCommand .forward imm) s

/-- STEPB (R83). -/
def execStepb (imm : Word) (s : State) : Host.Outcome State Fault Refusal := checked false (stepCommand .backward imm) s

end Sys2Proof.Machine
end

