-- ==== Sys2Proof/Machine/Dispatch.lean ====
section
/-! DEFINITION. The effect of a command at the edge that accepts it, one arm per constructor of Instr. Whether a command
is accepted is Machine/Edge.lean's (30_encoding.md R60; assumption 8). -/

namespace Sys2Proof.Machine

def exec (i : Instr) (s : State) : Host.Outcome State Fault Refusal :=
  match i with
  | .create1 imm => Sys2Proof.Machine.execCreate1 imm s
  | .create2 imm => Sys2Proof.Machine.execCreate2 imm s
  | .stepf imm => Sys2Proof.Machine.execStepf imm s
  | .stepb imm => Sys2Proof.Machine.execStepb imm s
  | .holdon => Sys2Proof.Machine.execHoldon s
  | .holdoff => Sys2Proof.Machine.execHoldoff s
  | .setpd imm => Sys2Proof.Machine.execSetpd imm s
  | .getpd => Sys2Proof.Machine.execGetpd s
  | .release => Sys2Proof.Machine.execRelease s

end Sys2Proof.Machine
end

