-- ==== Sys2Proof/Machine/Pulse.lean ====
section
/-! DEFINITION. The pulse FSM: what an edge does while a step command is in progress (41_stepping.md R86, R87, R88). -/

namespace Sys2Proof.Machine

/-- Dwell (R86); used only where `timer` is not 0, so it never wraps. -/
def dwell (s : State) : State := { s.noReport with timer := s.timer - 1 }

/-- Next repetition (R87); used only where `steps_left` is not 0. -/
def nextRepetition (s : State) : State :=
  { s.noReport with
    phaseState := nextPhase s.phaseState s.direction
    stepsLeft := s.stepsLeft - 1
    timer := s.pulseDuration }

/-- Completion (R88): the enable level drops unless hold mode is on, and the call returns OK. -/
def completeStep (s : State) : State :=
  ({ s with ctrl := .idle, enLvl := if s.holdEnabled then s.enLvl else false }).report .ok 0

/-- One edge with `ctrl` = PULSE and no reset. -/
def pulseEdge (s : State) : State :=
  if s.timer ≠ 0 then dwell s
  else if s.stepsLeft ≠ 0 then nextRepetition s
  else completeStep s

end Sys2Proof.Machine
end

