-- ==== Sys2Proof/Machine/Edge.lean ====
section
/-! DEFINITION. One rising edge of `clk`: `S_{t+1} = Step(S_t, I_t)` of 00_scope.md R6, in the priority of
60_exceptions.md R130 (reset, then the pulse FSM, then an accepted command). -/

namespace Sys2Proof.Machine

/-- Time goes on by one cycle: the next sample of the ports becomes the current one. -/
def State.nextCycle (s : State) : State := { s with inputs := s.inputs.tail }

/-- Every register takes its reset value (R140); the ports are not registers. -/
def State.resetRegisters (s : State) : State := { State.reset with inputs := s.inputs }

/-- Apply `f` to the next state, if there is one. -/
def mapNext (f : State → State) : Host.Outcome State Fault Refusal → Host.Outcome State Fault Refusal
  | .next s => .next (f s)
  | .fault r => .fault r
  | .refused r => .refused r

/-- The accepted word's effect: a reserved opcode first, else the command (R59, R61). -/
def acceptWord (s : State) : Host.Outcome State Fault Refusal :=
  match decode s.input.cmd with
  | .command i => exec i s
  | .rejected (.reservedOpcode _) => .next (reservedOpcode s)

/-- An edge with `ctrl` = IDLE and no reset: a word is accepted exactly when `cmd_valid` = 1 (R60). -/
def idleEdge (s : State) : Host.Outcome State Fault Refusal :=
  if s.input.cmdValid then acceptWord s else .next s.noReport

/-- The register writes of one edge (R147). -/
def edge (s : State) : Host.Outcome State Fault Refusal :=
  if s.input.rst then .next s.resetRegisters
  else
    match s.ctrl with
    | .pulse => .next (pulseEdge s)
    | .idle => idleEdge s

/-- One edge, after which the next cycle's sample stands at the ports. -/
def clockEdge (s : State) : Host.Outcome State Fault Refusal := mapNext State.nextCycle (edge s)

/-- `s` with the word `w` presented in the current cycle: `rst` = 0, `cmd_valid` = 1, the port open (R60). The
collaborator's answers are those of the current sample (assumption 3). -/
def State.presentWord (s : State) (w : CmdWord) : State :=
  { s with
    ctrl := .idle
    inputs := { s.input with rst := false, cmdValid := true, cmd := w } :: s.inputs.tail }

end Sys2Proof.Machine
end

