-- ==== Sys2Proof/Machine/Step.lean ====
section
/-! DEFINITION. One step of the machine is one rising edge of `clk` (00_scope.md R6). -/

namespace Sys2Proof.Machine

/-- `Step` of R147. -/
def step (s : State) : Host.Outcome State Fault Refusal := clockEdge s

/-- `s` with the word `w` of an opcode-table row presented to the next step (assumption 3). -/
def State.withFetchWord (s : State) (nbits w : Nat) : State := s.presentWord (BitVec.ofNat 36 (w % 2 ^ nbits))

end Sys2Proof.Machine
end

