-- ==== Sys2Proof/Machine/Listing.lean ====
section
/-! DEFINITION. The host's convention for a program listing (30_encoding.md R62). It stands beside the machine: `step`
does not use it. -/

namespace Sys2Proof.Machine

/-- What the host presents in one cycle and the lines that remain: a command from the first cycle in which `cmd_ready`
is 1 after the previous was accepted, and so for one cycle; `WAIT k` holds `cmd_valid` = 0 for `k` cycles in which the
port is open (DEDUCED from program P2; assumption 16). A line whose operand does not fit has no word and is never
presented. -/
def hostCycle (ready : Bool) : List ListingLine → Input × List ListingLine
  | [] => (Input.idle, [])
  | .wait 0 :: rest => hostCycle ready rest
  | .wait (k + 1) :: rest => (Input.idle, if ready then .wait k :: rest else .wait (k + 1) :: rest)
  | .command c acqOk relOk :: rest =>
    if ready then
      match assemble c with
      | some w => ({ rst := false, cmdValid := true, cmd := w, acqOk := acqOk, relOk := relOk }, rest)
      | none => (Input.idle, .command c acqOk relOk :: rest)
    else (Input.idle, .command c acqOk relOk :: rest)

/-- `k` edges under a host that follows the listing: it reads `cmd_ready`, an output of the current cycle. -/
def runListing : Nat → List ListingLine → State → Host.Outcome State Fault Refusal
  | 0, _, s => .next s
  | k + 1, lines, s =>
    let (sample, rest) := hostCycle (s.ctrl = .idle) lines
    match clockEdge { s with inputs := [sample] } with
    | .next t => runListing k rest t
    | .fault r => .fault r
    | .refused r => .refused r

end Sys2Proof.Machine
end

