-- ==== Sys2Proof/Machine/Outputs.lean ====
section
/-! DEFINITION. The output ports, each a function of the registers of the current cycle (10_state.md R28, R34), and the
pin space (20_memory.md R41 to R45). -/

namespace Sys2Proof.Machine

/-- The six locations of the pin space (R41). -/
inductive Pin where
  | a | b | c | d | en0 | en1
  deriving DecidableEq, Repr

/-- The pin's index (R41). -/
def Pin.index : Pin → Nat
  | .a => 0
  | .b => 1
  | .c => 2
  | .d => 3
  | .en0 => 4
  | .en1 => 5

/-- The three observable levels of a pin (R8, R42). `z`: the block does not drive it, and its level is the platform's. -/
inductive PinLevel where
  | z | low | high
  deriving DecidableEq, Repr

/-- The commutation table packed as `{D,C,B,A}` (R43). -/
def commutation (ps : Phase) : BitVec 4 :=
  if ps = 0#2 then 0b0101#4
  else if ps = 1#2 then 0b0110#4
  else if ps = 2#2 then 0b1010#4
  else 0b1001#4

/-- `pin_lvl`: the row on bits 3:0, the enable level on bits 4 and 5 (R28). -/
def State.pinLvl (s : State) : PinVec := BitVec.ofBool s.enLvl ++ BitVec.ofBool s.enLvl ++ commutation s.phaseState

/-- `pin_oe` (R28). -/
def State.pinOe (s : State) : PinVec := s.pinOwn

/-- `PinLevel(i)` (R42). -/
def State.pinLevel (s : State) (p : Pin) : PinLevel :=
  if s.pinOe.getLsbD p.index then (if s.pinLvl.getLsbD p.index then .high else .low) else .z

/-- `cmd_ready` (R28). -/
def State.cmdReady (s : State) : Bool := s.ctrl = .idle

/-- `busy` (R28). -/
def State.busy (s : State) : Bool := s.ctrl = .pulse

/-- The number of a lifecycle state (R10, D5). -/
def Life.bits : Life → BitVec 2
  | .unbound => 0
  | .active => 1
  | .released => 2

/-- The number of a direction (R10, D5). -/
def Direction.bits : Direction → BitVec 1
  | .forward => 0
  | .backward => 1

/-- Every output port of R28 with the status outputs of R34. `timer` and `steps_left` drive no port. -/
structure Outputs where
  cmdReady : Bool
  busy : Bool
  pinOe : PinVec
  pinLvl : PinVec
  rspValid : BitVec 1
  rspCode : BitVec 4
  rspData : Word
  life : BitVec 2
  twoEn : BitVec 1
  phaseState : BitVec 2
  direction : BitVec 1
  holdEnabled : BitVec 1
  pulseDuration : Word
  enLvl : BitVec 1
  acqFail : PinVec
  relFail : PinVec
  warn : BitVec 1
  eIllegal : BitVec 1
  eLife : BitVec 1
  deriving DecidableEq, Repr

/-- The outputs during a cycle (R28: a function of `S_t` only). -/
def State.outputs (s : State) : Outputs where
  cmdReady := s.cmdReady
  busy := s.busy
  pinOe := s.pinOe
  pinLvl := s.pinLvl
  rspValid := BitVec.ofBool s.rspValid
  rspCode := s.rspCode
  rspData := s.rspData
  life := s.life.bits
  twoEn := BitVec.ofBool s.twoEn
  phaseState := s.phaseState
  direction := s.direction.bits
  holdEnabled := BitVec.ofBool s.holdEnabled
  pulseDuration := s.pulseDuration
  enLvl := BitVec.ofBool s.enLvl
  acqFail := s.acqFail
  relFail := s.relFail
  warn := BitVec.ofBool s.warn
  eIllegal := BitVec.ofBool s.eIllegal
  eLife := BitVec.ofBool s.eLife

/-- The physical dwell of one row in seconds, `(pulse_duration + 1) × T_CLK` (70_reset_and_hazards.md R153). -/
def State.physicalDwell (s : State) : Rat := (s.pulseDuration.toNat + 1 : Nat) * Config.tClk

end Sys2Proof.Machine
end

