-- ==== Sys2Proof/Safety.lean ====
section
/-! DEFINITION. The predicates claims are stated with: the invariants of 10_state.md R33, the end of a run
(70_reset_and_hazards.md R148), and the premises on the platform (R32, R153). -/

namespace Sys2Proof.Machine

/-- The invariants of R33, clause by clause, and the register ranges of R10, R21 and R120 that go with them. -/
structure Invariants (s : State) : Prop where
  /-- R33(a). -/
  pulse_active : s.ctrl = .pulse → s.life = .active ∧ s.enLvl = true
  /-- R33(b). -/
  idle_enable : s.ctrl = .idle → s.life = .active → s.enLvl = s.holdEnabled
  /-- R33(c). -/
  unbound_clear : s.life = .unbound → s.pinOwn = 0 ∧ s.acqFail = 0 ∧ s.relFail = 0 ∧ s.phaseState = 0 ∧ s.enLvl = false ∧ s.holdEnabled = false
  /-- R33(d). -/
  released_unowned : s.life = .released → s.pinOwn = 0
  /-- R33(e), first half. -/
  owned_not_failed : s.pinOwn &&& s.acqFail = 0
  /-- R33(e), second half. -/
  en1_two : s.pinOwn.getLsbD 5 = true → s.twoEn = true
  /-- R33(f) as a property of one state (DEDUCED, assumption 17): a pin whose release failed was not one whose
  acquisition failed. -/
  relFail_owned : s.relFail &&& s.acqFail = 0
  /-- R33(f): no release failure before RELEASE (DEDUCED, assumption 17). -/
  relFail_released : s.life ≠ .released → s.relFail = 0
  /-- R33(g). -/
  idle_counters : s.ctrl = .idle → s.timer = 0 ∧ s.stepsLeft = 0
  /-- R13, R22: in ACTIVE every attempted pin, and no other, is owned or failed (DEDUCED, assumption 17). -/
  active_attempted : s.life = .active → s.pinOwn ||| s.acqFail = attempted s.twoEn
  /-- R10, R21: `steps_left` is at most 2^31 - 2. -/
  stepsLeft_bound : s.stepsLeft.toNat ≤ 2 ^ 31 - 2
  /-- R20, R93: the timer never exceeds the pulse duration it was loaded from (DEDUCED, assumption 17). -/
  timer_bound : s.ctrl = .pulse → s.timer.toNat ≤ s.pulseDuration.toNat
  /-- R120: the codes 0x8 to 0xF are never produced. -/
  code_known : s.rspCode.toNat ≤ 7

/-- The block is quiescent in a cycle (R148). -/
def State.quiescent (s : State) : Bool := s.ctrl = .idle && !s.input.cmdValid

/-- A run that ends here is complete (R148). -/
def State.runComplete (s : State) : Bool := s.life = .released && s.ctrl = .idle && s.noFaultRecorded

/-- Exclusive ownership (R32), a premise on the platform: `others` are the pins that something else drives. -/
def State.exclusiveOwnership (s : State) (others : PinVec) : Bool := s.pinOe &&& others = 0

/-- The pulse is long enough for the driver and the motor (R153), which the block does not check. -/
def State.pulseLongEnough (s : State) : Prop := Config.minPulseCycles ≤ s.pulseDuration.toNat + 1

/-- `k` edges of the machine. -/
def run (k : Nat) (s : State) : Host.Outcome State Fault Refusal := Host.Core.run Sys2Proof.core k s

/-- A command word is accepted at the edge that ends this cycle (R60). -/
def State.accepts (s : State) : Prop := s.input.rst = false ∧ s.input.cmdValid = true ∧ s.ctrl = .idle

/-- The accepted word is the command `i`. -/
def State.acceptsCommand (s : State) (i : Instr) : Prop := s.accepts ∧ decode s.input.cmd = .command i

/-- The step command of a direction: STEPF or STEPB (R81). -/
def stepInstr : Direction → Word → Instr
  | .forward, imm => .stepf imm
  | .backward, imm => .stepb imm

/-- The other direction. -/
def Direction.opposite : Direction → Direction
  | .forward => .backward
  | .backward => .forward

/-- A step command starts at this edge (R81): accepted in ACTIVE with a count of at least 1. -/
def State.startsStep (s : State) : Prop :=
  s.life = .active ∧ ∃ d imm, s.acceptsCommand (stepInstr d imm) ∧ 1 ≤ imm.toInt

/-- A later repetition starts at this edge (R87). -/
def State.startsNextRepetition (s : State) : Prop :=
  s.input.rst = false ∧ s.ctrl = .pulse ∧ s.timer = 0 ∧ s.stepsLeft ≠ 0

/-- A step command completes at this edge (R88). -/
def State.completesStep (s : State) : Prop :=
  s.input.rst = false ∧ s.ctrl = .pulse ∧ s.timer = 0 ∧ s.stepsLeft = 0

/-- A create command takes its effect at this edge (R70). -/
def State.creates (s : State) : Prop :=
  s.life = .unbound ∧ ∃ imm, s.acceptsCommand (.create1 imm) ∨ s.acceptsCommand (.create2 imm)

/-- RELEASE takes its effect at this edge (R110). -/
def State.releases (s : State) : Prop := s.life = .active ∧ s.acceptsCommand .release

/-- The accepted word has a reserved opcode (R59). -/
def State.acceptsReserved (s : State) : Prop :=
  s.accepts ∧ ((s.input.cmd.extractLsb' 32 4).toNat = 0 ∨ 10 ≤ (s.input.cmd.extractLsb' 32 4).toNat)

/-- The accepted command is one that the lifecycle state forbids (R123). -/
def State.violatesLife (s : State) : Prop :=
  ∃ i, s.acceptsCommand i ∧
    (s.life = .released ∨
      (s.life = .active ∧ ∃ imm, i = .create1 imm ∨ i = .create2 imm) ∨
      (s.life = .unbound ∧ ∀ imm, i ≠ .create1 imm ∧ i ≠ .create2 imm))

/-- What lies `k` steps in direction `d` from a phase state (R89, R92(d)). -/
def phaseAfter (d : Direction) (k : Nat) (ps : Phase) : Phase :=
  match d with
  | .forward => ps + BitVec.ofNat 2 k
  | .backward => ps - BitVec.ofNat 2 k

end Sys2Proof.Machine
end

