-- ==== Sys2Proof/Certificates/Slice0/Obligations.lean ====
section
/-! DEFINITION. The statements for the provers. A statement about `exec` speaks of the edge that accepts the command;
whether a word is accepted is what the statements about `step` say (30_encoding.md R60). Where a statement says "any
collaborator" it means that `acq_ok` and `rel_ok` are whatever the current sample of the ports holds. -/

open Sys2Proof Sys2Proof.Machine

/-! ## Encoding -/

/-- R55 to R58: decoding what the encoder writes gives the command back, with every operand; and a word that decodes to a
command has that command's opcode and, where the command has an operand, is the encoder's word. -/
def Obligations.DecodeEncodeAgree : Prop :=
  (∀ i : Instr, decode (encode i) = .command i) ∧
  (∀ (w : CmdWord) (i : Instr), decode w = .command i →
    w &&& 0xF00000000#36 = encode i &&& 0xF00000000#36 ∧
    (i ≠ .holdon → i ≠ .holdoff → i ≠ .getpd → i ≠ .release → encode i = w))

/-- R56: the opcode map, as match and mask over the 36-bit word; every other word is rejected as reserved. -/
def Obligations.OpcodeSelectsCommand : Prop :=
  ∀ w : CmdWord,
    (w &&& 0xF00000000#36 = 0x100000000#36 → decode w = .command (.create1 (w.extractLsb' 0 32))) ∧
    (w &&& 0xF00000000#36 = 0x200000000#36 → decode w = .command (.create2 (w.extractLsb' 0 32))) ∧
    (w &&& 0xF00000000#36 = 0x300000000#36 → decode w = .command (.stepf (w.extractLsb' 0 32))) ∧
    (w &&& 0xF00000000#36 = 0x400000000#36 → decode w = .command (.stepb (w.extractLsb' 0 32))) ∧
    (w &&& 0xF00000000#36 = 0x500000000#36 → decode w = .command .holdon) ∧
    (w &&& 0xF00000000#36 = 0x600000000#36 → decode w = .command .holdoff) ∧
    (w &&& 0xF00000000#36 = 0x700000000#36 → decode w = .command (.setpd (w.extractLsb' 0 32))) ∧
    (w &&& 0xF00000000#36 = 0x800000000#36 → decode w = .command .getpd) ∧
    (w &&& 0xF00000000#36 = 0x900000000#36 → decode w = .command .release) ∧
    ((w.extractLsb' 32 4).toNat = 0 ∨ 10 ≤ (w.extractLsb' 32 4).toNat →
      decode w = .rejected (.reservedOpcode (w.extractLsb' 32 4)))

/-- R58: all 2^32 operand values of the four operand-less commands select the same command, and the assembler writes
zeros there. -/
def Obligations.IgnoredOperandSameCommand : Prop :=
  (∀ imm : Word,
    decode (0x5#4 ++ imm) = .command .holdon ∧ decode (0x6#4 ++ imm) = .command .holdoff ∧
    decode (0x8#4 ++ imm) = .command .getpd ∧ decode (0x9#4 ++ imm) = .command .release) ∧
  assemble .holdon = some 0x500000000#36 ∧ assemble .holdoff = some 0x600000000#36 ∧
  assemble .getpd = some 0x800000000#36 ∧ assemble .release = some 0x900000000#36

/-- R65: the worked encodings, row by row: the word, its `op` and its `imm` (where R65 does not say "ignored"). -/
def Obligations.WorkedEncodings : Prop :=
  (assemble (.create1 2) = some 0x100000002#36 ∧ opField 0x100000002#36 = 0x1#4 ∧ immField 0x100000002#36 = 0x00000002#32) ∧
  (assemble (.create2 0) = some 0x200000000#36 ∧ opField 0x200000000#36 = 0x2#4 ∧ immField 0x200000000#36 = 0x00000000#32) ∧
  (assemble (.stepf 4) = some 0x300000004#36 ∧ opField 0x300000004#36 = 0x3#4 ∧ immField 0x300000004#36 = 0x00000004#32) ∧
  (assemble (.stepb 2) = some 0x400000002#36 ∧ opField 0x400000002#36 = 0x4#4 ∧ immField 0x400000002#36 = 0x00000002#32) ∧
  (assemble (.stepf 0) = some 0x300000000#36 ∧ opField 0x300000000#36 = 0x3#4 ∧ immField 0x300000000#36 = 0x00000000#32) ∧
  (assemble (.stepb (-1)) = some 0x4FFFFFFFF#36 ∧ opField 0x4FFFFFFFF#36 = 0x4#4 ∧ immField 0x4FFFFFFFF#36 = 0xFFFFFFFF#32) ∧
  (assemble (.stepf 2147483647) = some 0x37FFFFFFF#36 ∧ opField 0x37FFFFFFF#36 = 0x3#4 ∧ immField 0x37FFFFFFF#36 = 0x7FFFFFFF#32) ∧
  (assemble (.stepf (-2147483648)) = some 0x380000000#36 ∧ opField 0x380000000#36 = 0x3#4 ∧ immField 0x380000000#36 = 0x80000000#32) ∧
  (assemble .holdon = some 0x500000000#36 ∧ opField 0x500000000#36 = 0x5#4) ∧
  (assemble .holdoff = some 0x600000000#36 ∧ opField 0x600000000#36 = 0x6#4) ∧
  (assemble (.setpd 1000) = some 0x7000003E8#36 ∧ opField 0x7000003E8#36 = 0x7#4 ∧ immField 0x7000003E8#36 = 0x000003E8#32) ∧
  (assemble .getpd = some 0x800000000#36 ∧ opField 0x800000000#36 = 0x8#4) ∧
  (assemble .release = some 0x900000000#36 ∧ opField 0x900000000#36 = 0x9#4) ∧
  (assemble .step1f = some 0x300000001#36 ∧ opField 0x300000001#36 = 0x3#4 ∧ immField 0x300000001#36 = 0x00000001#32) ∧
  (assemble .step1b = some 0x400000001#36 ∧ opField 0x400000001#36 = 0x4#4 ∧ immField 0x400000001#36 = 0x00000001#32)

/-- R56: words written out bit by bit, one for each command and two reserved ones, decode to what they stand for. -/
def Obligations.WordsDecode : Prop :=
  decode 0b000100000000000000000000001111101000#36 = .command (.create1 1000) ∧
  decode 0b001000000000000000000000000000000111#36 = .command (.create2 7) ∧
  decode 0b001100000000000000000000000000000100#36 = .command (.stepf 4) ∧
  decode 0b010010000000000000000000000000000000#36 = .command (.stepb 0x80000000) ∧
  decode 0b010111011110101011011011111011101111#36 = .command .holdon ∧
  decode 0b011000000000000000000000000000000000#36 = .command .holdoff ∧
  decode 0b011111111111111111111111111111111111#36 = .command (.setpd 0xFFFFFFFF) ∧
  decode 0b100000000000000000000000000000000000#36 = .command .getpd ∧
  decode 0b100100000000000000000000000000000000#36 = .command .release ∧
  decode 0b000000000000000000000000000000000000#36 = .rejected (.reservedOpcode 0x0) ∧
  decode 0b101000000000000000000000000001010101#36 = .rejected (.reservedOpcode 0xA)

/-- R57, R62, R63: a line whose operand fits assembles to a word that decodes to its command, and the operand reads back
as the number written, negative counts included. The last clause, that a line whose operand does not fit has no word, is
the model's reading and no rule's words (DEDUCED, assumption 13). -/
def Obligations.AssembledLineDecodes : Prop :=
  (∀ c : AsmCommand, c.wellFormed = true → ∃ w, assemble c = some w ∧ decode w = .command c.instr) ∧
  (∀ n : Int, -2 ^ 31 ≤ n → n < 2 ^ 31 → countOperand (BitVec.ofInt 32 n) = n) ∧
  (∀ d : Nat, d < 2 ^ 32 → (durationOperand (BitVec.ofNat 32 d)).toNat = d) ∧
  (∀ c : AsmCommand, c.wellFormed = false → assemble c = none)

/-! ## Acceptance and the edge -/

/-- R60, R61: an accepted word that decodes to a command runs that command, and the next cycle's sample comes to the
ports. Every command is well-formed (WellFormed.lean), so nothing is asked of `i`. -/
def Obligations.StepRunsAcceptedCommand : Prop :=
  ∀ (s : State) (i : Instr), s.input.rst = false → s.input.cmdValid = true → s.ctrl = .idle →
    decode s.input.cmd = .command i →
    step s = mapNext State.nextCycle (exec i s)

/-- The model's own (assumption 3): a table word placed with `withFetchWord` is the command the very next step runs. -/
def Obligations.PlacedWordRunsNext : Prop :=
  ∀ (s : State) (nbits w : Nat) (i : Instr), decodeTableWord nbits w = some i →
    step (s.withFetchWord nbits w) = mapNext State.nextCycle (exec i (s.withFetchWord nbits w)) ∧
    (s.withFetchWord nbits w).input.cmd.toNat = w % 2 ^ nbits

/-- R59, R124: an accepted word with a reserved opcode, in any lifecycle state and with any operand. -/
def Obligations.ReservedOpcodeFault : Prop :=
  ∀ s : State, s.input.rst = false → s.input.cmdValid = true → s.ctrl = .idle →
    ((s.input.cmd.extractLsb' 32 4).toNat = 0 ∨ 10 ≤ (s.input.cmd.extractLsb' 32 4).toNat) →
    step s = .next { s with
      eIllegal := true, rspValid := true, rspCode := 0x4, rspData := 0, inputs := s.inputs.tail }

/-- R60, R149: while a step command is in progress nothing at the port but `rst` matters, so a word presented then has no
effect and is not remembered; and with `cmd_valid` = 0 the word and the answers do not matter. -/
def Obligations.PortIgnoredUnlessAccepted : Prop :=
  ∀ (s : State) (a b : Input) (rest : List Input), a.rst = false → b.rst = false →
    (s.ctrl = .pulse → step { s with inputs := a :: rest } = step { s with inputs := b :: rest }) ∧
    (a.cmdValid = false → b.cmdValid = false →
      step { s with inputs := a :: rest } = step { s with inputs := b :: rest })

/-- R148: a quiescent edge clears `rsp_valid` and changes nothing else. -/
def Obligations.QuiescentEdge : Prop :=
  ∀ s : State, s.input.rst = false → s.ctrl = .idle → s.input.cmdValid = false →
    step s = .next { s with rspValid := false, inputs := s.inputs.tail }

/-- R140: reset, whatever the state and the other inputs. -/
def Obligations.ResetEdge : Prop :=
  ∀ s : State, s.input.rst = true →
    step s = .next
      { life := .unbound, twoEn := false, pinOwn := 0b000000, phaseState := 0, direction := .forward,
        holdEnabled := false, pulseDuration := 0x00000000, enLvl := false, ctrl := .idle, timer := 0x00000000,
        stepsLeft := 0x00000000, acqFail := 0b000000, relFail := 0b000000, warn := false, eIllegal := false,
        eLife := false, rspValid := false, rspCode := 0x0, rspData := 0x00000000, inputs := s.inputs.tail }

/-- R141: the outputs in the reset state. -/
def Obligations.ResetOutputs : Prop :=
  State.reset.outputs =
    { cmdReady := true, busy := false, pinOe := 0b000000, pinLvl := 0b000101, rspValid := 0, rspCode := 0x0, rspData := 0,
      life := 0, twoEn := 0, phaseState := 0, direction := 0, holdEnabled := 0, pulseDuration := 0, enLvl := 0,
      acqFail := 0, relFail := 0, warn := 0, eIllegal := 0, eLife := 0 } ∧
  ∀ p : Pin, State.reset.pinLevel p = .z

/-- R147's `report(code, data)`. -/
def Sys2Proof.Certificates.listingReport (code : BitVec 4) (data : Word) (s : State) : State :=
  { s with rspValid := true, rspCode := code, rspData := data }

/-- R147, the lines under `S.ctrl == PULSE`. -/
def Sys2Proof.Certificates.listingPulse (s : State) : State :=
  if s.timer ≠ 0 then { s with timer := s.timer - 1 }
  else if s.stepsLeft ≠ 0 then
    { s with
      phaseState := if s.direction = .forward then s.phaseState + 1 else s.phaseState - 1
      stepsLeft := s.stepsLeft - 1
      timer := s.pulseDuration }
  else Sys2Proof.Certificates.listingReport 0x0 0 { s with ctrl := .idle, enLvl := s.enLvl && s.holdEnabled }

/-- R147, cases 0x1 and 0x2: `Create(m, imm, acq_ok)` with the attempted pins as a number. -/
def Sys2Proof.Certificates.listingCreate (m : Bool) (att : PinVec) (imm : Word) (acqOk : PinVec) (s : State) : State :=
  Sys2Proof.Certificates.listingReport (if att &&& ~~~acqOk ≠ 0 then 0x2 else 0x0) ((att &&& ~~~acqOk).setWidth 32)
    { s with
      pinOwn := att &&& acqOk, acqFail := att &&& ~~~acqOk, twoEn := m, phaseState := 0, direction := .forward
      holdEnabled := false, enLvl := false, pulseDuration := imm, life := .active }

/-- R147, cases 0x3 and 0x4: the count guard or `StepStart(d, imm)`. -/
def Sys2Proof.Certificates.listingStepCommand (d : Direction) (imm : Word) (s : State) : State :=
  if imm.toInt < 1 then Sys2Proof.Certificates.listingReport 0x1 0 { s with warn := true }
  else
    { s with
      direction := d
      phaseState := if d = .forward then s.phaseState + 1 else s.phaseState - 1
      enLvl := true, timer := s.pulseDuration, stepsLeft := imm - 1, ctrl := .pulse }

/-- R147, case 0x9. -/
def Sys2Proof.Certificates.listingRelease (relOk : PinVec) (s : State) : State :=
  Sys2Proof.Certificates.listingReport (if s.pinOwn &&& ~~~relOk ≠ 0 then 0x3 else 0x0)
    ((s.pinOwn &&& ~~~relOk).setWidth 32)
    { s with relFail := s.pinOwn &&& ~~~relOk, pinOwn := 0, life := .released }

/-- R147, the lines from `op = ...` on, by the opcode's number. -/
def Sys2Proof.Certificates.listingCommand (op : Nat) (imm : Word) (acqOk relOk : PinVec) (s : State) : State :=
  if op = 0x0 ∨ 0xA ≤ op then Sys2Proof.Certificates.listingReport 0x4 0 { s with eIllegal := true }
  else if s.life = .unbound ∧ ¬ (op = 0x1 ∨ op = 0x2) then
    Sys2Proof.Certificates.listingReport 0x5 0 { s with eLife := true }
  else if s.life = .active ∧ (op = 0x1 ∨ op = 0x2) then
    Sys2Proof.Certificates.listingReport 0x6 0 { s with eLife := true }
  else if s.life = .released then Sys2Proof.Certificates.listingReport 0x7 0 { s with eLife := true }
  else if op = 0x1 then Sys2Proof.Certificates.listingCreate false 31 imm acqOk s
  else if op = 0x2 then Sys2Proof.Certificates.listingCreate true 63 imm acqOk s
  else if op = 0x3 then Sys2Proof.Certificates.listingStepCommand .forward imm s
  else if op = 0x4 then Sys2Proof.Certificates.listingStepCommand .backward imm s
  else if op = 0x5 then Sys2Proof.Certificates.listingReport 0x0 0 { s with holdEnabled := true, enLvl := true }
  else if op = 0x6 then Sys2Proof.Certificates.listingReport 0x0 0 { s with holdEnabled := false, enLvl := false }
  else if op = 0x7 then Sys2Proof.Certificates.listingReport 0x0 0 { s with pulseDuration := imm }
  else if op = 0x8 then Sys2Proof.Certificates.listingReport 0x0 s.pulseDuration s
  else Sys2Proof.Certificates.listingRelease relOk s

/-- R147: the whole transition function, transcribed line by line, with the model's `inputs` moved on by one cycle. The
registers start from the reset values, or from `rsp_valid <- 0`. -/
def Sys2Proof.Certificates.listingStep (s : State) : State :=
  if s.input.rst then { State.reset with inputs := s.inputs.tail }
  else if s.ctrl = .pulse then
    Sys2Proof.Certificates.listingPulse { s with rspValid := false, inputs := s.inputs.tail }
  else if s.input.cmdValid = false then { s with rspValid := false, inputs := s.inputs.tail }
  else
    Sys2Proof.Certificates.listingCommand (s.input.cmd >>> 32).toNat (s.input.cmd.setWidth 32) s.input.acqOk
      s.input.relOk { s with rspValid := false, inputs := s.inputs.tail }

/-- R147: the machine's step, built from the family files' operations, is the listing, on every state and every input. -/
def Obligations.StepMatchesListing : Prop :=
  ∀ s : State, step s = .next (Sys2Proof.Certificates.listingStep s)

/-- R125, R148: no edge stops the machine, faults recorded or not. -/
def Obligations.StepNeverStops : Prop :=
  ∀ s : State, ∃ t, step s = .next t

/-! ## Each command at its accepting edge -/

/-- A word presented while a step command is in progress acts as if nothing were presented (R60, R93), for the words of
one command. -/
def Sys2Proof.Certificates.IgnoredWhileBusy (i : Instr) : Prop :=
  ∀ s : State, s.input.rst = false → s.ctrl = .pulse → decode s.input.cmd = .command i →
    step s = step { s with inputs := { s.input with cmdValid := false } :: s.inputs.tail }

/-- R71 (with R70 for one enable pin): CREATE1 in each lifecycle state; bit 5 of `acq_ok` plays no part. -/
def Obligations.Create1Result : Prop :=
  ∀ (imm : Word) (s : State),
    encode (.create1 imm) = 0x100000000#36 ||| imm.setWidth 36 ∧
    (s.life = .unbound →
      exec (.create1 imm) s = .next { s with
        pinOwn := 0b011111 &&& s.input.acqOk, acqFail := 0b011111 &&& ~~~s.input.acqOk, twoEn := false,
        phaseState := 0, direction := .forward, holdEnabled := false, enLvl := false, pulseDuration := imm,
        life := .active, rspValid := true,
        rspCode := if 0b011111 &&& ~~~s.input.acqOk = 0 then 0x0 else 0x2,
        rspData := (0b011111 &&& ~~~s.input.acqOk).setWidth 32 }) ∧
    (s.life = .active →
      exec (.create1 imm) s = .next { s with eLife := true, rspValid := true, rspCode := 0x6, rspData := 0 }) ∧
    (s.life = .released →
      exec (.create1 imm) s = .next { s with eLife := true, rspValid := true, rspCode := 0x7, rspData := 0 })

/-- R72 (with R70 for two enable pins): CREATE2 in each lifecycle state. -/
def Obligations.Create2Result : Prop :=
  ∀ (imm : Word) (s : State),
    encode (.create2 imm) = 0x200000000#36 ||| imm.setWidth 36 ∧
    (s.life = .unbound →
      exec (.create2 imm) s = .next { s with
        pinOwn := s.input.acqOk, acqFail := ~~~s.input.acqOk, twoEn := true,
        phaseState := 0, direction := .forward, holdEnabled := false, enLvl := false, pulseDuration := imm,
        life := .active, rspValid := true,
        rspCode := if ~~~s.input.acqOk = 0 then 0x0 else 0x2,
        rspData := (~~~s.input.acqOk).setWidth 32 }) ∧
    (s.life = .active →
      exec (.create2 imm) s = .next { s with eLife := true, rspValid := true, rspCode := 0x6, rspData := 0 }) ∧
    (s.life = .released →
      exec (.create2 imm) s = .next { s with eLife := true, rspValid := true, rspCode := 0x7, rspData := 0 })

/-- R81, R90: STEPF at its accepting edge, in each lifecycle state and for every count; the command's own direction,
its first repetition and the loop's set-up, or the guarded no-op, which keeps `direction`. -/
def Obligations.StepfResult : Prop :=
  ∀ (imm : Word) (s : State),
    encode (.stepf imm) = 0x300000000#36 ||| imm.setWidth 36 ∧
    (s.life = .active → 1 ≤ imm.toInt →
      exec (.stepf imm) s = .next { s with
        direction := .forward, phaseState := s.phaseState + 1, enLvl := true, timer := s.pulseDuration,
        stepsLeft := imm - 1, ctrl := .pulse, rspValid := false }) ∧
    (s.life = .active → imm.toInt < 1 →
      exec (.stepf imm) s = .next { s with warn := true, rspValid := true, rspCode := 0x1, rspData := 0 }) ∧
    (s.life = .unbound →
      exec (.stepf imm) s = .next { s with eLife := true, rspValid := true, rspCode := 0x5, rspData := 0 }) ∧
    (s.life = .released →
      exec (.stepf imm) s = .next { s with eLife := true, rspValid := true, rspCode := 0x7, rspData := 0 })

/-- R81, R90: STEPB at its accepting edge, as STEPF with the other direction. -/
def Obligations.StepbResult : Prop :=
  ∀ (imm : Word) (s : State),
    encode (.stepb imm) = 0x400000000#36 ||| imm.setWidth 36 ∧
    (s.life = .active → 1 ≤ imm.toInt →
      exec (.stepb imm) s = .next { s with
        direction := .backward, phaseState := s.phaseState - 1, enLvl := true, timer := s.pulseDuration,
        stepsLeft := imm - 1, ctrl := .pulse, rspValid := false }) ∧
    (s.life = .active → imm.toInt < 1 →
      exec (.stepb imm) s = .next { s with warn := true, rspValid := true, rspCode := 0x1, rspData := 0 }) ∧
    (s.life = .unbound →
      exec (.stepb imm) s = .next { s with eLife := true, rspValid := true, rspCode := 0x5, rspData := 0 }) ∧
    (s.life = .released →
      exec (.stepb imm) s = .next { s with eLife := true, rspValid := true, rspCode := 0x7, rspData := 0 })

/-- R100: HOLDON. -/
def Obligations.HoldonResult : Prop :=
  (∀ imm : Word, decode (0x5#4 ++ imm) = .command .holdon) ∧ encode .holdon = 0x500000000#36 ∧
  Sys2Proof.Certificates.IgnoredWhileBusy .holdon ∧
  ∀ s : State,
    (s.life = .active →
      exec .holdon s = .next { s with
        holdEnabled := true, enLvl := true, rspValid := true, rspCode := 0x0, rspData := 0 }) ∧
    (s.life = .unbound →
      exec .holdon s = .next { s with eLife := true, rspValid := true, rspCode := 0x5, rspData := 0 }) ∧
    (s.life = .released →
      exec .holdon s = .next { s with eLife := true, rspValid := true, rspCode := 0x7, rspData := 0 })

/-- R101: HOLDOFF; the enable level drops at the accepting edge (90_conflicts.md C1). -/
def Obligations.HoldoffResult : Prop :=
  (∀ imm : Word, decode (0x6#4 ++ imm) = .command .holdoff) ∧ encode .holdoff = 0x600000000#36 ∧
  Sys2Proof.Certificates.IgnoredWhileBusy .holdoff ∧
  ∀ s : State,
    (s.life = .active →
      exec .holdoff s = .next { s with
        holdEnabled := false, enLvl := false, rspValid := true, rspCode := 0x0, rspData := 0 }) ∧
    (s.life = .unbound →
      exec .holdoff s = .next { s with eLife := true, rspValid := true, rspCode := 0x5, rspData := 0 }) ∧
    (s.life = .released →
      exec .holdoff s = .next { s with eLife := true, rspValid := true, rspCode := 0x7, rspData := 0 })

/-- R105: SETPD, for every operand. -/
def Obligations.SetpdResult : Prop :=
  ∀ (imm : Word) (s : State),
    encode (.setpd imm) = 0x700000000#36 ||| imm.setWidth 36 ∧
    (s.life = .active →
      exec (.setpd imm) s = .next { s with
        pulseDuration := imm, rspValid := true, rspCode := 0x0, rspData := 0 }) ∧
    (s.life = .unbound →
      exec (.setpd imm) s = .next { s with eLife := true, rspValid := true, rspCode := 0x5, rspData := 0 }) ∧
    (s.life = .released →
      exec (.setpd imm) s = .next { s with eLife := true, rspValid := true, rspCode := 0x7, rspData := 0 })

/-- R106: GETPD; on a violation `rsp_data` is 0 and not the pulse duration. -/
def Obligations.GetpdResult : Prop :=
  (∀ imm : Word, decode (0x8#4 ++ imm) = .command .getpd) ∧ encode .getpd = 0x800000000#36 ∧
  ∀ s : State,
    (s.life = .active →
      exec .getpd s = .next { s with rspValid := true, rspCode := 0x0, rspData := s.pulseDuration }) ∧
    (s.life = .unbound →
      exec .getpd s = .next { s with eLife := true, rspValid := true, rspCode := 0x5, rspData := 0 }) ∧
    (s.life = .released →
      exec .getpd s = .next { s with eLife := true, rspValid := true, rspCode := 0x7, rspData := 0 })

/-- R110: RELEASE; every owned pin is given back, whatever the collaborator answers. -/
def Obligations.ReleaseResult : Prop :=
  (∀ imm : Word, decode (0x9#4 ++ imm) = .command .release) ∧ encode .release = 0x900000000#36 ∧
  Sys2Proof.Certificates.IgnoredWhileBusy .release ∧
  ∀ s : State,
    (s.life = .active →
      exec .release s = .next { s with
        relFail := s.pinOwn &&& ~~~s.input.relOk, pinOwn := 0b000000, life := .released, rspValid := true,
        rspCode := if s.pinOwn &&& ~~~s.input.relOk = 0 then 0x0 else 0x3,
        rspData := (s.pinOwn &&& ~~~s.input.relOk).setWidth 32 }) ∧
    (s.life = .unbound →
      exec .release s = .next { s with eLife := true, rspValid := true, rspCode := 0x5, rspData := 0 }) ∧
    (s.life = .released →
      exec .release s = .next { s with eLife := true, rspValid := true, rspCode := 0x7, rspData := 0 })

/-- R123: the lifecycle table, for all commands: what a violation does, and that an allowed command is none. -/
def Obligations.LifecycleCheck : Prop :=
  ∀ (i : Instr) (s : State),
    (s.life = .unbound → (∀ imm, i ≠ .create1 imm ∧ i ≠ .create2 imm) →
      exec i s = .next { s with eLife := true, rspValid := true, rspCode := 0x5, rspData := 0 }) ∧
    (s.life = .active → (∃ imm, i = .create1 imm ∨ i = .create2 imm) →
      exec i s = .next { s with eLife := true, rspValid := true, rspCode := 0x6, rspData := 0 }) ∧
    (s.life = .released →
      exec i s = .next { s with eLife := true, rspValid := true, rspCode := 0x7, rspData := 0 }) ∧
    ((s.life = .unbound ∧ ∃ imm, i = .create1 imm ∨ i = .create2 imm) ∨
      (s.life = .active ∧ ∀ imm, i ≠ .create1 imm ∧ i ≠ .create2 imm) →
      ∃ t, exec i s = .next t ∧ t.eLife = s.eLife ∧ (t.rspValid = true → t.rspCode.toNat < 4))

/-! ## The pulse FSM -/

/-- R80: the transition function of the phase state, all eight entries. -/
def Obligations.NextPhaseTable : Prop :=
  (nextPhase 0 .forward = 1 ∧ nextPhase 1 .forward = 2 ∧ nextPhase 2 .forward = 3 ∧ nextPhase 3 .forward = 0) ∧
  (nextPhase 0 .backward = 3 ∧ nextPhase 1 .backward = 0 ∧ nextPhase 2 .backward = 1 ∧ nextPhase 3 .backward = 2)

/-- R86: dwell. -/
def Obligations.DwellEdge : Prop :=
  ∀ s : State, s.input.rst = false → s.ctrl = .pulse → s.timer ≠ 0 →
    step s = .next { s with timer := s.timer - 1, rspValid := false, inputs := s.inputs.tail }

/-- R87: the next repetition, in the command's direction. -/
def Obligations.NextRepetitionEdge : Prop :=
  ∀ s : State, s.input.rst = false → s.ctrl = .pulse → s.timer = 0 → s.stepsLeft ≠ 0 →
    step s = .next { s with
      phaseState := if s.direction = .forward then s.phaseState + 1 else s.phaseState - 1
      stepsLeft := s.stepsLeft - 1, timer := s.pulseDuration, rspValid := false, inputs := s.inputs.tail }

/-- R88: completion. -/
def Obligations.CompletionEdge : Prop :=
  ∀ s : State, s.input.rst = false → s.ctrl = .pulse → s.timer = 0 → s.stepsLeft = 0 →
    step s = .next { s with
      ctrl := .idle, enLvl := if s.holdEnabled = false then false else s.enLvl
      rspValid := true, rspCode := 0x0, rspData := 0, inputs := s.inputs.tail }

/-- R89: the timing law, for both directions, every count of at least 1 and every pulse duration. The accepting edge is
step 1, so cycle `c` after it is reached by `1 + c` steps; no reset in between. The command's row `k` stands for exactly
`p + 1` cycles, the block is busy for `n(p + 1)` cycles, and in cycle `n(p + 1)` the port is open again and the response
stands. -/
def Obligations.StepTimingLaw : Prop :=
  ∀ (s : State) (d : Direction) (imm : Word),
    s.acceptsCommand (stepInstr d imm) → s.life = .active → 1 ≤ imm.toInt →
    (∀ k, k ≤ imm.toNat * (s.pulseDuration.toNat + 1) → (s.inputAt k).rst = false) →
    (∀ c, c < imm.toNat * (s.pulseDuration.toNat + 1) →
      ∃ t, run (1 + c) s = .next t ∧ t.ctrl = .pulse ∧ t.cmdReady = false ∧ t.busy = true ∧ t.enLvl = true ∧
        t.rspValid = false ∧ t.phaseState = phaseAfter d (c / (s.pulseDuration.toNat + 1) + 1) s.phaseState) ∧
    (∃ t, run (1 + imm.toNat * (s.pulseDuration.toNat + 1)) s = .next t ∧ t.ctrl = .idle ∧ t.cmdReady = true ∧
        t.busy = false ∧ t.rspValid = true ∧ t.rspCode = 0x0 ∧ t.rspData = 0 ∧ t.enLvl = s.holdEnabled ∧
        t.phaseState = phaseAfter d imm.toNat s.phaseState ∧ t.direction = d)

/-- R92(b), R92(c): a step command and then the opposite one with the same count, any count of at least 0, restores the
phase state and the phase pins' pattern, whatever happens at the port in between but a reset. The fault bits stay, so no
fault is recorded at the end (R125) if none was before. -/
def Obligations.OppositeStepsRestorePhase : Prop :=
  ∀ (s : State) (d : Direction) (imm : Word),
    s.acceptsCommand (stepInstr d imm) → s.life = .active → 0 ≤ imm.toInt →
    (s.inputAt (1 + imm.toNat * (s.pulseDuration.toNat + 1))).cmdValid = true →
    decode (s.inputAt (1 + imm.toNat * (s.pulseDuration.toNat + 1))).cmd = .command (stepInstr d.opposite imm) →
    (∀ k, k < 2 * (1 + imm.toNat * (s.pulseDuration.toNat + 1)) → (s.inputAt k).rst = false) →
    ∃ t, run (2 * (1 + imm.toNat * (s.pulseDuration.toNat + 1))) s = .next t ∧ t.ctrl = .idle ∧
      t.phaseState = s.phaseState ∧ (∀ p, p.index < 4 → t.pinLevel p = s.pinLevel p) ∧
      t.eIllegal = s.eIllegal ∧ t.eLife = s.eLife

/-- R92(a): a count that is a multiple of 4 ends at the phase state and the phase pattern it began with. -/
def Obligations.PeriodFour : Prop :=
  ∀ (s : State) (d : Direction) (imm : Word),
    s.acceptsCommand (stepInstr d imm) → s.life = .active → 1 ≤ imm.toInt → 4 ∣ imm.toNat →
    (∀ k, k ≤ imm.toNat * (s.pulseDuration.toNat + 1) → (s.inputAt k).rst = false) →
    ∃ t, run (1 + imm.toNat * (s.pulseDuration.toNat + 1)) s = .next t ∧ t.ctrl = .idle ∧
      t.phaseState = s.phaseState ∧ ∀ p, p.index < 4 → t.pinLevel p = s.pinLevel p

/-- R84, R85: the pseudo-commands: one repetition, `steps_left` 0, busy `p + 1` cycles, then OK. -/
def Obligations.SingleStepCommands : Prop :=
  ∀ s : State, s.accepts → s.life = .active →
    (∀ k, k ≤ s.pulseDuration.toNat + 1 → (s.inputAt k).rst = false) →
    (assemble .step1f = some s.input.cmd →
      ∃ t u, step s = .next t ∧ t.stepsLeft = 0 ∧ t.busy = true ∧
        run (1 + (s.pulseDuration.toNat + 1)) s = .next u ∧ u.busy = false ∧ u.rspValid = true ∧ u.rspCode = 0x0 ∧
        u.phaseState = s.phaseState + 1) ∧
    (assemble .step1b = some s.input.cmd →
      ∃ t u, step s = .next t ∧ t.stepsLeft = 0 ∧ t.busy = true ∧
        run (1 + (s.pulseDuration.toNat + 1)) s = .next u ∧ u.busy = false ∧ u.rspValid = true ∧ u.rspCode = 0x0 ∧
        u.phaseState = s.phaseState - 1)

/-- R95: the two-state FSM on `ctrl`, row by row, and reset over all rows. -/
def Obligations.CtrlTransitionTable : Prop :=
  ∀ s t : State, step s = .next t →
    (s.input.rst = true → t.ctrl = .idle) ∧
    (s.input.rst = false → s.ctrl = .idle → s.input.cmdValid = false → t.ctrl = .idle) ∧
    (s.startsStep → t.ctrl = .pulse) ∧
    (s.accepts → ¬ s.startsStep → t.ctrl = .idle) ∧
    (s.input.rst = false → s.ctrl = .pulse → s.timer ≠ 0 → t.ctrl = .pulse) ∧
    (s.input.rst = false → s.ctrl = .pulse → s.timer = 0 → s.stepsLeft ≠ 0 → t.ctrl = .pulse) ∧
    (s.input.rst = false → s.ctrl = .pulse → s.timer = 0 → s.stepsLeft = 0 → t.ctrl = .idle)

/-- R95: the FSM cannot stay in PULSE for ever: each edge completes the command or lowers (`steps_left`, `timer`)
lexicographically. -/
def Obligations.PulseMeasureDecreases : Prop :=
  ∀ s : State, s.input.rst = false → s.ctrl = .pulse →
    ∃ t, step s = .next t ∧
      (t.ctrl = .idle ∨ t.stepsLeft.toNat < s.stepsLeft.toNat ∨
        (t.stepsLeft = s.stepsLeft ∧ t.timer.toNat < s.timer.toNat))

/-- R94: the counters are only loaded and decremented, and decremented only when non-zero, so they never wrap; the count's
`imm - 1` is exact and at most 2^31 - 2 (R21). -/
def Obligations.CountersNeverWrap : Prop :=
  ∀ s t : State, s.input.rst = false → step s = .next t →
    (t.timer = s.timer ∨ (t.timer = s.pulseDuration ∧ (s.startsStep ∨ s.startsNextRepetition)) ∨
      t.timer.toNat + 1 = s.timer.toNat) ∧
    (t.stepsLeft = s.stepsLeft ∨ t.stepsLeft.toNat + 1 = s.stepsLeft.toNat ∨
      ∃ d imm, s.acceptsCommand (stepInstr d imm) ∧ (t.stepsLeft.toNat : Int) = imm.toInt - 1 ∧
        t.stepsLeft.toNat ≤ 2 ^ 31 - 2)

/-- R93, R107: while a step command is in progress nothing changes but the phase state, the two counters, `ctrl`, the
enable level (at completion) and the response: it is not cancelled, and the pulse duration, the direction and hold mode
stay. -/
def Obligations.PulseFrame : Prop :=
  ∀ s : State, s.input.rst = false → s.ctrl = .pulse →
    ∃ t, step s = .next t ∧ t.life = s.life ∧ t.twoEn = s.twoEn ∧ t.pinOwn = s.pinOwn ∧ t.direction = s.direction ∧
      t.holdEnabled = s.holdEnabled ∧ t.pulseDuration = s.pulseDuration ∧ t.acqFail = s.acqFail ∧
      t.relFail = s.relFail ∧ t.warn = s.warn ∧ t.eIllegal = s.eIllegal ∧ t.eLife = s.eLife ∧
      (¬ s.completesStep → t.ctrl = .pulse ∧ t.enLvl = s.enLvl ∧ t.rspCode = s.rspCode ∧ t.rspData = s.rspData)

/-! ## Whole-machine rules -/

/-- R30: the phase state moves by 1 in the direction of the command exactly where a repetition starts, goes to 0 at a
create command and at reset, and is otherwise unchanged. -/
def Obligations.PhaseMovesOnlyByOne : Prop :=
  ∀ s t : State, step s = .next t →
    (s.startsStep ∨ s.startsNextRepetition →
      t.phaseState = if t.direction = .forward then s.phaseState + 1 else s.phaseState - 1) ∧
    (s.creates ∨ s.input.rst = true → t.phaseState = 0) ∧
    (¬ s.startsStep → ¬ s.startsNextRepetition → ¬ s.creates → s.input.rst = false → t.phaseState = s.phaseState)

/-- R11, R113: the only lifecycle transitions. -/
def Obligations.LifeTransitions : Prop :=
  ∀ s t : State, step s = .next t →
    (s.input.rst = true → t.life = .unbound) ∧
    (s.creates → t.life = .active) ∧
    (s.releases → t.life = .released) ∧
    (s.input.rst = false → ¬ s.creates → ¬ s.releases → t.life = s.life)

/-- R10, the column "written by": a register that changes without a reset was changed by one of its writers. The pulse
FSM acts exactly where `ctrl` is PULSE. -/
def Obligations.WrittenByColumn : Prop :=
  ∀ s t : State, s.input.rst = false → step s = .next t →
    (t.life ≠ s.life → s.creates ∨ s.releases) ∧
    (t.twoEn ≠ s.twoEn → s.creates) ∧
    (t.pinOwn ≠ s.pinOwn → s.creates ∨ s.releases) ∧
    (t.phaseState ≠ s.phaseState → s.creates ∨ s.startsStep ∨ s.ctrl = .pulse) ∧
    (t.direction ≠ s.direction → s.creates ∨ s.startsStep) ∧
    (t.holdEnabled ≠ s.holdEnabled → s.creates ∨ s.acceptsCommand .holdon ∨ s.acceptsCommand .holdoff) ∧
    (t.pulseDuration ≠ s.pulseDuration → s.creates ∨ ∃ imm, s.acceptsCommand (.setpd imm)) ∧
    (t.enLvl ≠ s.enLvl →
      s.creates ∨ s.startsStep ∨ s.acceptsCommand .holdon ∨ s.acceptsCommand .holdoff ∨ s.ctrl = .pulse) ∧
    (t.ctrl ≠ s.ctrl → s.startsStep ∨ s.ctrl = .pulse) ∧
    (t.timer ≠ s.timer → s.startsStep ∨ s.ctrl = .pulse) ∧
    (t.stepsLeft ≠ s.stepsLeft → s.startsStep ∨ s.ctrl = .pulse) ∧
    (t.acqFail ≠ s.acqFail → s.creates) ∧
    (t.relFail ≠ s.relFail → s.releases) ∧
    (t.warn ≠ s.warn → ∃ d imm, s.acceptsCommand (stepInstr d imm)) ∧
    (t.eIllegal ≠ s.eIllegal → s.acceptsReserved) ∧
    (t.eLife ≠ s.eLife → s.violatesLife)

/-- R24, R25: each sticky bit is set exactly by its condition and cleared by nothing but reset. -/
def Obligations.StickyBits : Prop :=
  ∀ s t : State, s.input.rst = false → step s = .next t →
    (t.eIllegal = true ↔ s.eIllegal = true ∨ s.acceptsReserved) ∧
    (t.eLife = true ↔ s.eLife = true ∨ s.violatesLife) ∧
    (t.warn = true ↔ s.warn = true ∨
      (s.life = .active ∧ ∃ d imm, s.acceptsCommand (stepInstr d imm) ∧ imm.toInt < 1))

/-- R22, R23: under the invariants (assumption 17), no bit of the two failure records is ever cleared but by reset, and `acq_fail` is not
written again once the engine was created. -/
def Obligations.FailureRecordsKept : Prop :=
  ∀ s t : State, Invariants s → s.input.rst = false → step s = .next t →
    s.acqFail &&& ~~~t.acqFail = 0 ∧ s.relFail &&& ~~~t.relFail = 0 ∧
    (s.life ≠ .unbound → t.acqFail = s.acqFail) ∧ (s.life = .released → t.relFail = s.relFail)

/-- R31, R73: after the create command the enable-pin count is fixed, and no command ever sets a bit of `pin_own`. -/
def Obligations.ConfigurationFixed : Prop :=
  ∀ s t : State, s.life ≠ .unbound → s.input.rst = false → step s = .next t →
    t.twoEn = s.twoEn ∧ t.pinOwn &&& ~~~s.pinOwn = 0 ∧ t.life ≠ .unbound

/-- R26: `rsp_valid` is 1 after an edge exactly when a command completed at it, and the code and the data keep their
values where none did. A command completes at the edge that accepts it, a started step command at its completion edge. -/
def Obligations.ResponseRule : Prop :=
  ∀ s t : State, s.input.rst = false → step s = .next t →
    (t.rspValid = true ↔ (s.accepts ∧ ¬ s.startsStep) ∨ s.completesStep) ∧
    (t.rspValid = false → t.rspCode = s.rspCode ∧ t.rspData = s.rspData)

/-- R128, R120: a command that reports a warning or a fault has had no effect on the data model or the pins; one that
reports E_ACQ or E_REL has had its entire effect: all of R70's writes (`m`: two enable pins), or all of R110's, and every
other register kept. -/
def Obligations.ReportsPrecise : Prop :=
  ∀ s t : State, s.accepts → step s = .next t → t.rspValid = true →
    (t.rspCode = 0x1 ∨ t.rspCode = 0x4 ∨ t.rspCode = 0x5 ∨ t.rspCode = 0x6 ∨ t.rspCode = 0x7 →
      t = { s with
        warn := t.warn, eIllegal := t.eIllegal, eLife := t.eLife, rspValid := true, rspCode := t.rspCode, rspData := 0
        inputs := s.inputs.tail } ∧
      ∀ p : Pin, t.pinLevel p = s.pinLevel p) ∧
    (t.rspCode = 0x2 →
      s.life = .unbound ∧ ∃ (m : Bool) (imm : Word) (att : PinVec),
        s.acceptsCommand (if m then .create2 imm else .create1 imm) ∧ att = (if m then 0b111111 else 0b011111) ∧
        att &&& ~~~s.input.acqOk ≠ 0 ∧
        t = { s with
          pinOwn := att &&& s.input.acqOk, acqFail := att &&& ~~~s.input.acqOk, twoEn := m, phaseState := 0
          direction := .forward, holdEnabled := false, enLvl := false, pulseDuration := imm, life := .active
          rspValid := true, rspCode := 0x2, rspData := (att &&& ~~~s.input.acqOk).setWidth 32
          inputs := s.inputs.tail }) ∧
    (t.rspCode = 0x3 →
      s.life = .active ∧ s.acceptsCommand .release ∧ s.pinOwn &&& ~~~s.input.relOk ≠ 0 ∧
        t = { s with
          relFail := s.pinOwn &&& ~~~s.input.relOk, pinOwn := 0b000000, life := .released, rspValid := true
          rspCode := 0x3, rspData := (s.pinOwn &&& ~~~s.input.relOk).setWidth 32, inputs := s.inputs.tail }) ∧
    t.rspCode.toNat ≤ 7

/-- R27, R157: `acq_ok` is read only at the edge where a create command takes effect, and `rel_ok` only where RELEASE
does; CREATE1 ignores bit 5 of `acq_ok`, and RELEASE every bit of `rel_ok` whose pin is not owned. -/
def Obligations.AnswersReadOnlyWhereSaid : Prop :=
  ∀ (s : State) (a : Input) (rest : List Input) (v : PinVec),
    (¬ State.creates { s with inputs := a :: rest } →
      step { s with inputs := { a with acqOk := v } :: rest } = step { s with inputs := a :: rest }) ∧
    (¬ State.releases { s with inputs := a :: rest } →
      step { s with inputs := { a with relOk := v } :: rest } = step { s with inputs := a :: rest }) ∧
    (∀ imm, decode a.cmd = .command (.create1 imm) → v &&& 0b011111 = a.acqOk &&& 0b011111 →
      step { s with inputs := { a with acqOk := v } :: rest } = step { s with inputs := a :: rest }) ∧
    (v &&& s.pinOwn = a.relOk &&& s.pinOwn →
      step { s with inputs := { a with relOk := v } :: rest } = step { s with inputs := a :: rest })

/-- R105, R106: GETPD right after SETPD returns the value bit for bit; no other word or answer matters. -/
def Obligations.PulseDurationReadsBack : Prop :=
  ∀ (s : State) (imm : Word), s.life = .active → s.acceptsCommand (.setpd imm) →
    (s.inputAt 1).rst = false → (s.inputAt 1).cmdValid = true → decode (s.inputAt 1).cmd = .command .getpd →
    ∃ t, run 2 s = .next t ∧ t.rspValid = true ∧ t.rspCode = 0x0 ∧ t.rspData = imm ∧ t.pulseDuration = imm

/-- R150: a create word, CREATE1 or CREATE2, held on the port for two cycles is executed twice: the first acceptance
creates the engine, and the second is the fault of creating twice, reported, with no other effect. -/
def Obligations.HeldCreateIsExecutedAgain : Prop :=
  ∀ (s : State) (i : Instr) (imm : Word), i = .create1 imm ∨ i = .create2 imm →
    s.life = .unbound → s.acceptsCommand i → s.inputAt 1 = s.input →
    ∃ u, step s = .next u ∧ u.life = .active ∧ u.pulseDuration = imm ∧ u.eLife = s.eLife ∧ u.rspValid = true ∧
      run 2 s = .next { u with
        eLife := true, rspValid := true, rspCode := 0x6, rspData := 0, inputs := u.inputs.tail }

/-! ## Invariants -/

/-- R33, R10, R21, R120: every step keeps the invariants (Safety.lean's `Invariants`, of which assumption 17 names the clauses
that are the model's reading). -/
def Obligations.StepKeepsInvariants : Prop :=
  ∀ s t : State, Invariants s → step s = .next t → Invariants t

/-- R33: the invariants hold in the reset state (assumption 17 as above). -/
def Obligations.ResetMeetsInvariants : Prop := Invariants State.reset

/-- R33: the invariants hold in every state reachable from reset, whatever the host and the collaborator put on the
ports (assumption 17 as above). -/
def Obligations.ReachableStatesMeetInvariants : Prop :=
  ∀ (ports : List Input) (k : Nat) (t : State), run k { State.reset with inputs := ports } = .next t → Invariants t

/-! ## Outputs and pins -/

/-- R28, R34: every output port, from the registers alone. -/
def Obligations.OutputPorts : Prop :=
  ∀ (s : State) (ports : List Input),
    ({ s with inputs := ports } : State).outputs = s.outputs ∧
    (s.outputs.cmdReady = true ↔ s.ctrl = .idle) ∧ (s.outputs.busy = true ↔ s.ctrl = .pulse) ∧
    s.outputs.pinOe = s.pinOwn ∧ s.outputs.pinLvl.extractLsb' 0 4 = commutation s.phaseState ∧
    s.outputs.pinLvl.getLsbD 4 = s.enLvl ∧ s.outputs.pinLvl.getLsbD 5 = s.enLvl ∧
    s.outputs.rspValid = (if s.rspValid then 1 else 0) ∧ s.outputs.rspCode = s.rspCode ∧
    s.outputs.rspData = s.rspData ∧
    s.outputs.life = (match s.life with | .unbound => 0 | .active => 1 | .released => 2) ∧
    s.outputs.twoEn = (if s.twoEn then 1 else 0) ∧ s.outputs.phaseState = s.phaseState ∧
    s.outputs.direction = (match s.direction with | .forward => 0 | .backward => 1) ∧
    s.outputs.holdEnabled = (if s.holdEnabled then 1 else 0) ∧ s.outputs.pulseDuration = s.pulseDuration ∧
    s.outputs.enLvl = (if s.enLvl then 1 else 0) ∧ s.outputs.acqFail = s.acqFail ∧ s.outputs.relFail = s.relFail ∧
    s.outputs.warn = (if s.warn then 1 else 0) ∧ s.outputs.eIllegal = (if s.eIllegal then 1 else 0) ∧
    s.outputs.eLife = (if s.eLife then 1 else 0)

/-- R42, R43, R45: the level of each pin: `Z` when not owned, else the row of the commutation table, column by column, or
the enable level. -/
def Obligations.PinLevels : Prop :=
  ∀ s : State,
    (∀ p : Pin, s.pinLevel p = .z ↔ s.pinOwn.getLsbD p.index = false) ∧
    (s.pinOwn.getLsbD 0 = true → s.pinLevel .a = if s.phaseState = 0 ∨ s.phaseState = 3 then .high else .low) ∧
    (s.pinOwn.getLsbD 1 = true → s.pinLevel .b = if s.phaseState = 1 ∨ s.phaseState = 2 then .high else .low) ∧
    (s.pinOwn.getLsbD 2 = true → s.pinLevel .c = if s.phaseState = 0 ∨ s.phaseState = 1 then .high else .low) ∧
    (s.pinOwn.getLsbD 3 = true → s.pinLevel .d = if s.phaseState = 2 ∨ s.phaseState = 3 then .high else .low) ∧
    (s.pinOwn.getLsbD 4 = true → s.pinLevel .en0 = if s.enLvl then .high else .low) ∧
    (s.pinOwn.getLsbD 5 = true → s.pinLevel .en1 = if s.enLvl then .high else .low)

/-- R43, R44: the table bit-exact, and its properties (a) to (e). Bit 0 is A, 1 is B, 2 is C, 3 is D. -/
def Obligations.CommutationTable : Prop :=
  (commutation 0 = 0x5#4 ∧ commutation 1 = 0x6#4 ∧ commutation 2 = 0xA#4 ∧ commutation 3 = 0x9#4) ∧
  (∀ ps : Phase, ((commutation ps).getLsbD 0).toNat + ((commutation ps).getLsbD 1).toNat + ((commutation ps).getLsbD 2).toNat +
    ((commutation ps).getLsbD 3).toNat = 2) ∧
  (∀ ps : Phase, (commutation ps).getLsbD 0 = !(commutation ps).getLsbD 1 ∧ (commutation ps).getLsbD 2 = !(commutation ps).getLsbD 3) ∧
  (commutation 0 ^^^ commutation 1 = 0b0011#4 ∧ commutation 1 ^^^ commutation 2 = 0b1100#4 ∧ commutation 2 ^^^ commutation 3 = 0b0011#4 ∧
    commutation 3 ^^^ commutation 0 = 0b1100#4) ∧
  (∀ ps qs : Phase, commutation ps = commutation qs → ps = qs) ∧
  (∀ ps : Phase, (commutation ps).getLsbD 0 = (ps.getLsbD 1 == ps.getLsbD 0) ∧
    (commutation ps).getLsbD 1 = (ps.getLsbD 1 != ps.getLsbD 0) ∧ (commutation ps).getLsbD 2 = (ps.getLsbD 1 == false) ∧
    (commutation ps).getLsbD 3 = (ps.getLsbD 1 == true))

/-- R42, R45, R152: under the invariants (assumption 17) every pin is `Z` in UNBOUND and in RELEASED, EN1 is `Z` in the single-enable
variant, and two owned enable pins show one level; and a reset edge leaves every pin `Z`. -/
def Obligations.UndrivenPins : Prop :=
  (∀ s : State, Invariants s →
    (s.life = .unbound ∨ s.life = .released → ∀ p : Pin, s.pinLevel p = .z) ∧
    (s.twoEn = false → s.pinLevel .en1 = .z) ∧
    (s.pinLevel .en0 ≠ .z → s.pinLevel .en1 ≠ .z → s.pinLevel .en0 = s.pinLevel .en1)) ∧
  (∀ s : State, s.input.rst = true → ∃ t, step s = .next t ∧ t.rspValid = false ∧ ∀ p : Pin, t.pinLevel p = .z)

/-- R146: what a create command leaves when the collaborator answers success for every pin it attempts. -/
def Obligations.SuccessfulCreate : Prop :=
  ∀ (s : State) (imm : Word), s.life = .unbound → s.noFaultRecorded = true →
    (s.acceptsCommand (.create1 imm) → s.input.acqOk &&& 0b011111 = 0b011111 →
      ∃ t, step s = .next t ∧ t.life = .active ∧ t.phaseState = 0 ∧
        t.pinLevel .a = .high ∧ t.pinLevel .b = .low ∧ t.pinLevel .c = .high ∧ t.pinLevel .d = .low ∧
        t.pinLevel .en0 = .low ∧ t.pinLevel .en1 = .z ∧ t.direction = .forward ∧ t.holdEnabled = false ∧
        t.pulseDuration = imm ∧ t.ctrl = .idle ∧ t.noFaultRecorded = true ∧ t.rspValid = true ∧ t.rspCode = 0x0) ∧
    (s.acceptsCommand (.create2 imm) → s.input.acqOk = 0b111111 →
      ∃ t, step s = .next t ∧ t.life = .active ∧ t.phaseState = 0 ∧
        t.pinLevel .a = .high ∧ t.pinLevel .b = .low ∧ t.pinLevel .c = .high ∧ t.pinLevel .d = .low ∧
        t.pinLevel .en0 = .low ∧ t.pinLevel .en1 = .low ∧ t.direction = .forward ∧ t.holdEnabled = false ∧
        t.pulseDuration = imm ∧ t.ctrl = .idle ∧ t.noFaultRecorded = true ∧ t.rspValid = true ∧ t.rspCode = 0x0)
end

