-- ==== Sys2Proof/Laws/Decode.lean ====
section
/-! SUPPORT. The fields of a command word built from its fields, and the decoder on a word whose opcode is known. -/

namespace Sys2Proof

theorem getLsbD_cmdWord (op : Opcode) (imm : Word) (i : Nat) :
    (cmdWord op imm).getLsbD i = if i < 32 then imm.getLsbD i else op.getLsbD (i - 32) :=
  BitVec.getLsbD_append

@[simp] theorem opField_cmdWord (op : Opcode) (imm : Word) : opField (cmdWord op imm) = op := by
  apply BitVec.eq_of_getLsbD_eq
  intro i hi
  simp only [opField, BitVec.getLsbD_extractLsb', getLsbD_cmdWord]
  simp [hi]

@[simp] theorem immField_cmdWord (op : Opcode) (imm : Word) : immField (cmdWord op imm) = imm := by
  apply BitVec.eq_of_getLsbD_eq
  intro i hi
  simp only [immField, BitVec.getLsbD_extractLsb', getLsbD_cmdWord]
  simp [hi]

/-- A command word is its two fields and nothing else (R55). -/
theorem cmdWord_fields (w : CmdWord) : cmdWord (opField w) (immField w) = w := by
  apply BitVec.eq_of_getLsbD_eq
  intro i hi
  simp only [getLsbD_cmdWord, opField, immField, BitVec.getLsbD_extractLsb']
  by_cases h : i < 32
  · simp [h]
  · have h4 : i - 32 < 4 := by omega
    simp [h, h4, show 32 + (i - 32) = i by omega]

theorem decode_cmdWord (op : Opcode) (imm : Word) :
    decode (cmdWord op imm) =
      if op = 0x1#4 then .command (.create1 imm)
      else if op = 0x2#4 then .command (.create2 imm)
      else if op = 0x3#4 then .command (.stepf imm)
      else if op = 0x4#4 then .command (.stepb imm)
      else if op = 0x5#4 then .command .holdon
      else if op = 0x6#4 then .command .holdoff
      else if op = 0x7#4 then .command (.setpd imm)
      else if op = 0x8#4 then .command .getpd
      else if op = 0x9#4 then .command .release
      else .rejected (.reservedOpcode op) := by
  simp [decode]

end Sys2Proof
end

