-- ==== Sys2Proof/Laws/State.lean ====
section
/-! SUPPORT. One lemma for each field of State and each named update: what the update makes of the field. -/

namespace Sys2Proof.Machine

@[simp] theorem report_life (s : State) (c : ReportCode) (d : Word) : (s.report c d).life = s.life := rfl
@[simp] theorem report_twoEn (s : State) (c : ReportCode) (d : Word) : (s.report c d).twoEn = s.twoEn := rfl
@[simp] theorem report_pinOwn (s : State) (c : ReportCode) (d : Word) : (s.report c d).pinOwn = s.pinOwn := rfl
@[simp] theorem report_phaseState (s : State) (c : ReportCode) (d : Word) : (s.report c d).phaseState = s.phaseState := rfl
@[simp] theorem report_direction (s : State) (c : ReportCode) (d : Word) : (s.report c d).direction = s.direction := rfl
@[simp] theorem report_holdEnabled (s : State) (c : ReportCode) (d : Word) : (s.report c d).holdEnabled = s.holdEnabled := rfl
@[simp] theorem report_pulseDuration (s : State) (c : ReportCode) (d : Word) : (s.report c d).pulseDuration = s.pulseDuration := rfl
@[simp] theorem report_enLvl (s : State) (c : ReportCode) (d : Word) : (s.report c d).enLvl = s.enLvl := rfl
@[simp] theorem report_ctrl (s : State) (c : ReportCode) (d : Word) : (s.report c d).ctrl = s.ctrl := rfl
@[simp] theorem report_timer (s : State) (c : ReportCode) (d : Word) : (s.report c d).timer = s.timer := rfl
@[simp] theorem report_stepsLeft (s : State) (c : ReportCode) (d : Word) : (s.report c d).stepsLeft = s.stepsLeft := rfl
@[simp] theorem report_acqFail (s : State) (c : ReportCode) (d : Word) : (s.report c d).acqFail = s.acqFail := rfl
@[simp] theorem report_relFail (s : State) (c : ReportCode) (d : Word) : (s.report c d).relFail = s.relFail := rfl
@[simp] theorem report_warn (s : State) (c : ReportCode) (d : Word) : (s.report c d).warn = s.warn := rfl
@[simp] theorem report_eIllegal (s : State) (c : ReportCode) (d : Word) : (s.report c d).eIllegal = s.eIllegal := rfl
@[simp] theorem report_eLife (s : State) (c : ReportCode) (d : Word) : (s.report c d).eLife = s.eLife := rfl
@[simp] theorem report_rspValid (s : State) (c : ReportCode) (d : Word) : (s.report c d).rspValid = true := rfl
@[simp] theorem report_rspCode (s : State) (c : ReportCode) (d : Word) : (s.report c d).rspCode = c.bits := rfl
@[simp] theorem report_rspData (s : State) (c : ReportCode) (d : Word) : (s.report c d).rspData = d := rfl
@[simp] theorem report_inputs (s : State) (c : ReportCode) (d : Word) : (s.report c d).inputs = s.inputs := rfl

@[simp] theorem noReport_life (s : State) : (s.noReport).life = s.life := rfl
@[simp] theorem noReport_twoEn (s : State) : (s.noReport).twoEn = s.twoEn := rfl
@[simp] theorem noReport_pinOwn (s : State) : (s.noReport).pinOwn = s.pinOwn := rfl
@[simp] theorem noReport_phaseState (s : State) : (s.noReport).phaseState = s.phaseState := rfl
@[simp] theorem noReport_direction (s : State) : (s.noReport).direction = s.direction := rfl
@[simp] theorem noReport_holdEnabled (s : State) : (s.noReport).holdEnabled = s.holdEnabled := rfl
@[simp] theorem noReport_pulseDuration (s : State) : (s.noReport).pulseDuration = s.pulseDuration := rfl
@[simp] theorem noReport_enLvl (s : State) : (s.noReport).enLvl = s.enLvl := rfl
@[simp] theorem noReport_ctrl (s : State) : (s.noReport).ctrl = s.ctrl := rfl
@[simp] theorem noReport_timer (s : State) : (s.noReport).timer = s.timer := rfl
@[simp] theorem noReport_stepsLeft (s : State) : (s.noReport).stepsLeft = s.stepsLeft := rfl
@[simp] theorem noReport_acqFail (s : State) : (s.noReport).acqFail = s.acqFail := rfl
@[simp] theorem noReport_relFail (s : State) : (s.noReport).relFail = s.relFail := rfl
@[simp] theorem noReport_warn (s : State) : (s.noReport).warn = s.warn := rfl
@[simp] theorem noReport_eIllegal (s : State) : (s.noReport).eIllegal = s.eIllegal := rfl
@[simp] theorem noReport_eLife (s : State) : (s.noReport).eLife = s.eLife := rfl
@[simp] theorem noReport_rspValid (s : State) : (s.noReport).rspValid = false := rfl
@[simp] theorem noReport_rspCode (s : State) : (s.noReport).rspCode = s.rspCode := rfl
@[simp] theorem noReport_rspData (s : State) : (s.noReport).rspData = s.rspData := rfl
@[simp] theorem noReport_inputs (s : State) : (s.noReport).inputs = s.inputs := rfl

@[simp] theorem setWarn_life (s : State) : (s.setWarn).life = s.life := rfl
@[simp] theorem setWarn_twoEn (s : State) : (s.setWarn).twoEn = s.twoEn := rfl
@[simp] theorem setWarn_pinOwn (s : State) : (s.setWarn).pinOwn = s.pinOwn := rfl
@[simp] theorem setWarn_phaseState (s : State) : (s.setWarn).phaseState = s.phaseState := rfl
@[simp] theorem setWarn_direction (s : State) : (s.setWarn).direction = s.direction := rfl
@[simp] theorem setWarn_holdEnabled (s : State) : (s.setWarn).holdEnabled = s.holdEnabled := rfl
@[simp] theorem setWarn_pulseDuration (s : State) : (s.setWarn).pulseDuration = s.pulseDuration := rfl
@[simp] theorem setWarn_enLvl (s : State) : (s.setWarn).enLvl = s.enLvl := rfl
@[simp] theorem setWarn_ctrl (s : State) : (s.setWarn).ctrl = s.ctrl := rfl
@[simp] theorem setWarn_timer (s : State) : (s.setWarn).timer = s.timer := rfl
@[simp] theorem setWarn_stepsLeft (s : State) : (s.setWarn).stepsLeft = s.stepsLeft := rfl
@[simp] theorem setWarn_acqFail (s : State) : (s.setWarn).acqFail = s.acqFail := rfl
@[simp] theorem setWarn_relFail (s : State) : (s.setWarn).relFail = s.relFail := rfl
@[simp] theorem setWarn_warn (s : State) : (s.setWarn).warn = true := rfl
@[simp] theorem setWarn_eIllegal (s : State) : (s.setWarn).eIllegal = s.eIllegal := rfl
@[simp] theorem setWarn_eLife (s : State) : (s.setWarn).eLife = s.eLife := rfl
@[simp] theorem setWarn_rspValid (s : State) : (s.setWarn).rspValid = s.rspValid := rfl
@[simp] theorem setWarn_rspCode (s : State) : (s.setWarn).rspCode = s.rspCode := rfl
@[simp] theorem setWarn_rspData (s : State) : (s.setWarn).rspData = s.rspData := rfl
@[simp] theorem setWarn_inputs (s : State) : (s.setWarn).inputs = s.inputs := rfl

@[simp] theorem nextCycle_life (s : State) : (s.nextCycle).life = s.life := rfl
@[simp] theorem nextCycle_twoEn (s : State) : (s.nextCycle).twoEn = s.twoEn := rfl
@[simp] theorem nextCycle_pinOwn (s : State) : (s.nextCycle).pinOwn = s.pinOwn := rfl
@[simp] theorem nextCycle_phaseState (s : State) : (s.nextCycle).phaseState = s.phaseState := rfl
@[simp] theorem nextCycle_direction (s : State) : (s.nextCycle).direction = s.direction := rfl
@[simp] theorem nextCycle_holdEnabled (s : State) : (s.nextCycle).holdEnabled = s.holdEnabled := rfl
@[simp] theorem nextCycle_pulseDuration (s : State) : (s.nextCycle).pulseDuration = s.pulseDuration := rfl
@[simp] theorem nextCycle_enLvl (s : State) : (s.nextCycle).enLvl = s.enLvl := rfl
@[simp] theorem nextCycle_ctrl (s : State) : (s.nextCycle).ctrl = s.ctrl := rfl
@[simp] theorem nextCycle_timer (s : State) : (s.nextCycle).timer = s.timer := rfl
@[simp] theorem nextCycle_stepsLeft (s : State) : (s.nextCycle).stepsLeft = s.stepsLeft := rfl
@[simp] theorem nextCycle_acqFail (s : State) : (s.nextCycle).acqFail = s.acqFail := rfl
@[simp] theorem nextCycle_relFail (s : State) : (s.nextCycle).relFail = s.relFail := rfl
@[simp] theorem nextCycle_warn (s : State) : (s.nextCycle).warn = s.warn := rfl
@[simp] theorem nextCycle_eIllegal (s : State) : (s.nextCycle).eIllegal = s.eIllegal := rfl
@[simp] theorem nextCycle_eLife (s : State) : (s.nextCycle).eLife = s.eLife := rfl
@[simp] theorem nextCycle_rspValid (s : State) : (s.nextCycle).rspValid = s.rspValid := rfl
@[simp] theorem nextCycle_rspCode (s : State) : (s.nextCycle).rspCode = s.rspCode := rfl
@[simp] theorem nextCycle_rspData (s : State) : (s.nextCycle).rspData = s.rspData := rfl
@[simp] theorem nextCycle_inputs (s : State) : (s.nextCycle).inputs = s.inputs.tail := rfl

@[simp] theorem resetRegisters_life (s : State) : (s.resetRegisters).life = State.reset.life := rfl
@[simp] theorem resetRegisters_twoEn (s : State) : (s.resetRegisters).twoEn = State.reset.twoEn := rfl
@[simp] theorem resetRegisters_pinOwn (s : State) : (s.resetRegisters).pinOwn = State.reset.pinOwn := rfl
@[simp] theorem resetRegisters_phaseState (s : State) : (s.resetRegisters).phaseState = State.reset.phaseState := rfl
@[simp] theorem resetRegisters_direction (s : State) : (s.resetRegisters).direction = State.reset.direction := rfl
@[simp] theorem resetRegisters_holdEnabled (s : State) : (s.resetRegisters).holdEnabled = State.reset.holdEnabled := rfl
@[simp] theorem resetRegisters_pulseDuration (s : State) : (s.resetRegisters).pulseDuration = State.reset.pulseDuration := rfl
@[simp] theorem resetRegisters_enLvl (s : State) : (s.resetRegisters).enLvl = State.reset.enLvl := rfl
@[simp] theorem resetRegisters_ctrl (s : State) : (s.resetRegisters).ctrl = State.reset.ctrl := rfl
@[simp] theorem resetRegisters_timer (s : State) : (s.resetRegisters).timer = State.reset.timer := rfl
@[simp] theorem resetRegisters_stepsLeft (s : State) : (s.resetRegisters).stepsLeft = State.reset.stepsLeft := rfl
@[simp] theorem resetRegisters_acqFail (s : State) : (s.resetRegisters).acqFail = State.reset.acqFail := rfl
@[simp] theorem resetRegisters_relFail (s : State) : (s.resetRegisters).relFail = State.reset.relFail := rfl
@[simp] theorem resetRegisters_warn (s : State) : (s.resetRegisters).warn = State.reset.warn := rfl
@[simp] theorem resetRegisters_eIllegal (s : State) : (s.resetRegisters).eIllegal = State.reset.eIllegal := rfl
@[simp] theorem resetRegisters_eLife (s : State) : (s.resetRegisters).eLife = State.reset.eLife := rfl
@[simp] theorem resetRegisters_rspValid (s : State) : (s.resetRegisters).rspValid = State.reset.rspValid := rfl
@[simp] theorem resetRegisters_rspCode (s : State) : (s.resetRegisters).rspCode = State.reset.rspCode := rfl
@[simp] theorem resetRegisters_rspData (s : State) : (s.resetRegisters).rspData = State.reset.rspData := rfl
@[simp] theorem resetRegisters_inputs (s : State) : (s.resetRegisters).inputs = s.inputs := rfl

@[simp] theorem setFault_illegal_life (s : State) : (s.setFault .illegal).life = s.life := rfl
@[simp] theorem setFault_illegal_twoEn (s : State) : (s.setFault .illegal).twoEn = s.twoEn := rfl
@[simp] theorem setFault_illegal_pinOwn (s : State) : (s.setFault .illegal).pinOwn = s.pinOwn := rfl
@[simp] theorem setFault_illegal_phaseState (s : State) : (s.setFault .illegal).phaseState = s.phaseState := rfl
@[simp] theorem setFault_illegal_direction (s : State) : (s.setFault .illegal).direction = s.direction := rfl
@[simp] theorem setFault_illegal_holdEnabled (s : State) : (s.setFault .illegal).holdEnabled = s.holdEnabled := rfl
@[simp] theorem setFault_illegal_pulseDuration (s : State) : (s.setFault .illegal).pulseDuration = s.pulseDuration := rfl
@[simp] theorem setFault_illegal_enLvl (s : State) : (s.setFault .illegal).enLvl = s.enLvl := rfl
@[simp] theorem setFault_illegal_ctrl (s : State) : (s.setFault .illegal).ctrl = s.ctrl := rfl
@[simp] theorem setFault_illegal_timer (s : State) : (s.setFault .illegal).timer = s.timer := rfl
@[simp] theorem setFault_illegal_stepsLeft (s : State) : (s.setFault .illegal).stepsLeft = s.stepsLeft := rfl
@[simp] theorem setFault_illegal_acqFail (s : State) : (s.setFault .illegal).acqFail = s.acqFail := rfl
@[simp] theorem setFault_illegal_relFail (s : State) : (s.setFault .illegal).relFail = s.relFail := rfl
@[simp] theorem setFault_illegal_warn (s : State) : (s.setFault .illegal).warn = s.warn := rfl
@[simp] theorem setFault_illegal_eIllegal (s : State) : (s.setFault .illegal).eIllegal = true := rfl
@[simp] theorem setFault_illegal_eLife (s : State) : (s.setFault .illegal).eLife = s.eLife := rfl
@[simp] theorem setFault_illegal_rspValid (s : State) : (s.setFault .illegal).rspValid = s.rspValid := rfl
@[simp] theorem setFault_illegal_rspCode (s : State) : (s.setFault .illegal).rspCode = s.rspCode := rfl
@[simp] theorem setFault_illegal_rspData (s : State) : (s.setFault .illegal).rspData = s.rspData := rfl
@[simp] theorem setFault_illegal_inputs (s : State) : (s.setFault .illegal).inputs = s.inputs := rfl

@[simp] theorem setFault_life_life (s : State) : (s.setFault .life).life = s.life := rfl
@[simp] theorem setFault_life_twoEn (s : State) : (s.setFault .life).twoEn = s.twoEn := rfl
@[simp] theorem setFault_life_pinOwn (s : State) : (s.setFault .life).pinOwn = s.pinOwn := rfl
@[simp] theorem setFault_life_phaseState (s : State) : (s.setFault .life).phaseState = s.phaseState := rfl
@[simp] theorem setFault_life_direction (s : State) : (s.setFault .life).direction = s.direction := rfl
@[simp] theorem setFault_life_holdEnabled (s : State) : (s.setFault .life).holdEnabled = s.holdEnabled := rfl
@[simp] theorem setFault_life_pulseDuration (s : State) : (s.setFault .life).pulseDuration = s.pulseDuration := rfl
@[simp] theorem setFault_life_enLvl (s : State) : (s.setFault .life).enLvl = s.enLvl := rfl
@[simp] theorem setFault_life_ctrl (s : State) : (s.setFault .life).ctrl = s.ctrl := rfl
@[simp] theorem setFault_life_timer (s : State) : (s.setFault .life).timer = s.timer := rfl
@[simp] theorem setFault_life_stepsLeft (s : State) : (s.setFault .life).stepsLeft = s.stepsLeft := rfl
@[simp] theorem setFault_life_acqFail (s : State) : (s.setFault .life).acqFail = s.acqFail := rfl
@[simp] theorem setFault_life_relFail (s : State) : (s.setFault .life).relFail = s.relFail := rfl
@[simp] theorem setFault_life_warn (s : State) : (s.setFault .life).warn = s.warn := rfl
@[simp] theorem setFault_life_eIllegal (s : State) : (s.setFault .life).eIllegal = s.eIllegal := rfl
@[simp] theorem setFault_life_eLife (s : State) : (s.setFault .life).eLife = true := rfl
@[simp] theorem setFault_life_rspValid (s : State) : (s.setFault .life).rspValid = s.rspValid := rfl
@[simp] theorem setFault_life_rspCode (s : State) : (s.setFault .life).rspCode = s.rspCode := rfl
@[simp] theorem setFault_life_rspData (s : State) : (s.setFault .life).rspData = s.rspData := rfl
@[simp] theorem setFault_life_inputs (s : State) : (s.setFault .life).inputs = s.inputs := rfl

/-- The fields that no asked-per-pin report touches are those of its argument. -/
theorem reportFailures_eq (s : State) (c : ReportCode) (v : PinVec) :
    s.reportFailures c v =
      { s with rspValid := true, rspCode := (if v ≠ 0 then c.bits else ReportCode.ok.bits),
               rspData := (if v ≠ 0 then zext32 v else 0) } := by
  unfold State.reportFailures; split <;> rfl

end Sys2Proof.Machine
end

