-- ==== Sys2Proof/Laws/Ops.lean ====
section
/-! SUPPORT. For each shared operation of Machine/Ops.lean and Machine/Pulse.lean, once, everything it can do. -/

namespace Sys2Proof.Machine

/-- A checked command ends in its own effect where the lifecycle allows it, and in the violation's record elsewhere. -/
theorem checked_cases {c : Bool} {e : State → State} {s t : State} (h : checked c e s = .next t) :
    (lifeViolation c s.life = none ∧ t = e s) ∨
      ∃ code, lifeViolation c s.life = some code ∧ t = takeFault .life code s := by
  unfold checked at h
  split at h
  · exact .inr ⟨_, ‹_›, by cases h; rfl⟩
  · exact .inl ⟨‹_›, by cases h; rfl⟩

theorem checked_allowed {c : Bool} {e : State → State} {s : State} (h : lifeViolation c s.life = none) :
    checked c e s = .next (e s) := by
  unfold checked; rw [h]

theorem checked_violation {c : Bool} {e : State → State} {s : State} {code : ReportCode}
    (h : lifeViolation c s.life = some code) : checked c e s = .next (takeFault .life code s) := by
  unfold checked; rw [h]

/-- A checked command always answers a next state. -/
theorem checked_next (c : Bool) (e : State → State) (s : State) : ∃ t, checked c e s = .next t := by
  unfold checked; split <;> exact ⟨_, rfl⟩

theorem takeFault_life (code : ReportCode) (s : State) :
    takeFault .life code s = { s with eLife := true, rspValid := true, rspCode := code.bits, rspData := 0 } := rfl

theorem reservedOpcode_eq (s : State) :
    reservedOpcode s = { s with eIllegal := true, rspValid := true, rspCode := 4, rspData := 0 } := rfl

theorem create_eq (m : Bool) (imm : Word) (s : State) :
    create m imm s =
      { s with
        pinOwn := attempted m &&& s.input.acqOk, acqFail := attempted m &&& ~~~s.input.acqOk, twoEn := m,
        phaseState := 0, direction := .forward, holdEnabled := false, enLvl := false, pulseDuration := imm,
        life := .active, rspValid := true,
        rspCode := (if attempted m &&& ~~~s.input.acqOk ≠ 0 then ReportCode.eAcq.bits else ReportCode.ok.bits),
        rspData := (if attempted m &&& ~~~s.input.acqOk ≠ 0 then zext32 (attempted m &&& ~~~s.input.acqOk) else 0) } := by
  unfold create; rw [reportFailures_eq]; rfl

theorem releasePins_eq (s : State) :
    releasePins s =
      { s with
        relFail := s.pinOwn &&& ~~~s.input.relOk, pinOwn := 0, life := .released, rspValid := true,
        rspCode := (if s.pinOwn &&& ~~~s.input.relOk ≠ 0 then ReportCode.eRel.bits else ReportCode.ok.bits),
        rspData := (if s.pinOwn &&& ~~~s.input.relOk ≠ 0 then zext32 (s.pinOwn &&& ~~~s.input.relOk) else 0) } := by
  unfold releasePins; rw [reportFailures_eq]

theorem countBelowOne_iff (imm : Word) : countBelowOne imm = true ↔ imm.toInt < 1 := by
  unfold countBelowOne countOperand
  exact decide_eq_true_iff

/-- A step command warns on a count below 1 and starts on any other. -/
theorem stepCommand_cases (d : Direction) (imm : Word) (s : State) :
    (imm.toInt < 1 ∧ stepCommand d imm s = countWarning s) ∨ (1 ≤ imm.toInt ∧ stepCommand d imm s = stepStart d imm s) := by
  by_cases h : imm.toInt < 1
  · exact .inl ⟨h, if_pos ((countBelowOne_iff imm).2 h)⟩
  · refine .inr ⟨by omega, ?_⟩
    unfold stepCommand
    exact if_neg (fun h' => h ((countBelowOne_iff imm).1 h'))

/-- An edge of the pulse FSM dwells, starts the next repetition, or completes. -/
theorem pulseEdge_cases (s : State) :
    (s.timer ≠ 0 ∧ pulseEdge s = dwell s) ∨ (s.timer = 0 ∧ s.stepsLeft ≠ 0 ∧ pulseEdge s = nextRepetition s) ∨
      (s.timer = 0 ∧ s.stepsLeft = 0 ∧ pulseEdge s = completeStep s) := by
  unfold pulseEdge
  by_cases h : s.timer = 0
  · by_cases h' : s.stepsLeft = 0
    · exact .inr (.inr ⟨h, h', by rw [if_neg (not_not_intro h), if_neg (not_not_intro h')]⟩)
    · exact .inr (.inl ⟨h, h', by rw [if_neg (not_not_intro h), if_pos h']⟩)
  · exact .inl ⟨h, if_pos h⟩

theorem nextPhase_eq (ps : Phase) (d : Direction) :
    nextPhase ps d = if d = .forward then ps + 1 else ps - 1 := by
  cases d <;> rfl

end Sys2Proof.Machine
end

