-- ==== Sys2Proof/Laws/PerInstr.lean ====
section
/-! SUPPORT. Statements made for each command as syntax (LAWS.json). -/

namespace Sys2Proof.Laws

/-- The encoder writes an assigned opcode, the command's own, and never a reserved one (30_encoding.md R56, R59). -/
def EncodedOpcode.Statement (i : Instr) : Prop :=
  opField (encode i) = i.opcode ∧ (encode i).wellFormed = true

theorem encodedOpcode_of_assigned (i : Instr) (h : Opcode.assigned i.opcode = true) : EncodedOpcode.Statement i := by
  have hop : opField (encode i) = i.opcode := Sys2Proof.opField_cmdWord _ _
  refine ⟨hop, ?_⟩
  unfold CmdWord.wellFormed
  unfold opField at hop
  rw [hop]; exact h

theorem EncodedOpcode.create1 (imm : Word) : EncodedOpcode.Statement (.create1 imm) := encodedOpcode_of_assigned _ rfl
theorem EncodedOpcode.create2 (imm : Word) : EncodedOpcode.Statement (.create2 imm) := encodedOpcode_of_assigned _ rfl
theorem EncodedOpcode.stepf (imm : Word) : EncodedOpcode.Statement (.stepf imm) := encodedOpcode_of_assigned _ rfl
theorem EncodedOpcode.stepb (imm : Word) : EncodedOpcode.Statement (.stepb imm) := encodedOpcode_of_assigned _ rfl
theorem EncodedOpcode.holdon : EncodedOpcode.Statement .holdon := encodedOpcode_of_assigned _ rfl
theorem EncodedOpcode.holdoff : EncodedOpcode.Statement .holdoff := encodedOpcode_of_assigned _ rfl
theorem EncodedOpcode.setpd (imm : Word) : EncodedOpcode.Statement (.setpd imm) := encodedOpcode_of_assigned _ rfl
theorem EncodedOpcode.getpd : EncodedOpcode.Statement .getpd := encodedOpcode_of_assigned _ rfl
theorem EncodedOpcode.release : EncodedOpcode.Statement .release := encodedOpcode_of_assigned _ rfl

end Sys2Proof.Laws
end

