-- ==== Sys2Proof/Laws/Step.lean ====
section
/-! SUPPORT. Everything a step can do, once: the inversion of `step`. -/

namespace Sys2Proof.Machine

/-- A meaning always answers a next state. -/
theorem exec_next (i : Instr) (s : State) : ∃ t, exec i s = .next t := by
  cases i <;> exact checked_next _ _ _

/-- A step is one of: reset, an edge of the pulse FSM, a quiet edge, the reserved-opcode fault, an accepted command. -/
theorem step_cases {s t : State} (h : step s = .next t) :
    (s.input.rst = true ∧ t = s.resetRegisters.nextCycle) ∨
    (s.input.rst = false ∧ s.ctrl = .pulse ∧ t = (pulseEdge s).nextCycle) ∨
    (s.input.rst = false ∧ s.ctrl = .idle ∧ s.input.cmdValid = false ∧ t = s.noReport.nextCycle) ∨
    (s.accepts ∧ (∃ op, decode s.input.cmd = .rejected (.reservedOpcode op)) ∧ t = (reservedOpcode s).nextCycle) ∨
    (∃ i u, s.acceptsCommand i ∧ exec i s = .next u ∧ t = u.nextCycle) := by
  unfold step clockEdge edge at h
  cases hr : s.input.rst with
  | true =>
    rw [hr] at h
    exact .inl ⟨rfl, by cases h; rfl⟩
  | false =>
    rw [hr] at h
    refine .inr ?_
    cases hc : s.ctrl with
    | pulse =>
      rw [hc] at h
      exact .inl ⟨rfl, rfl, by cases h; rfl⟩
    | idle =>
      rw [hc] at h
      refine .inr ?_
      change mapNext State.nextCycle (idleEdge s) = .next t at h
      unfold idleEdge at h
      cases hv : s.input.cmdValid with
      | false =>
        rw [hv] at h
        exact .inl ⟨rfl, rfl, rfl, by cases h; rfl⟩
      | true =>
        rw [hv] at h
        refine .inr ?_
        have hacc : s.accepts := ⟨hr, hv, hc⟩
        change mapNext State.nextCycle (acceptWord s) = .next t at h
        unfold acceptWord at h
        cases hd : decode s.input.cmd with
        | rejected e =>
          cases e with
          | reservedOpcode op =>
            rw [hd] at h
            exact .inl ⟨hacc, ⟨op, rfl⟩, by cases h; rfl⟩
        | command i =>
          rw [hd] at h
          obtain ⟨u, hu⟩ := exec_next i s
          exact .inr ⟨i, u, ⟨hacc, hd⟩, hu, by simp only [hu, mapNext] at h; cases h; rfl⟩

theorem core_run_next (M : Host.Core) {s t : M.State} (h : M.step s = .next t) (k : Nat) :
    M.run (k + 1) s = M.run k t := by
  rw [Host.Core.run, h]

theorem core_run_refused (M : Host.Core) {s : M.State} {r : M.Refusal} (h : M.step s = .refused r) (k : Nat) :
    M.run (k + 1) s = .refused r := by
  rw [Host.Core.run, h]

@[simp] theorem run_zero (s : State) : run 0 s = .next s := rfl

/-- One more edge in front of a run. -/
theorem run_succ {s t : State} (h : step s = .next t) (k : Nat) : run (k + 1) s = run k t :=
  core_run_next Sys2Proof.core h k

/-- A run is a run of a run. -/
theorem run_add {j : Nat} : ∀ {s t : State}, run j s = .next t → ∀ k : Nat, run (j + k) s = run k t := by
  induction j with
  | zero => intro s t h k; cases h; rw [Nat.zero_add]
  | succ j ih =>
    intro s t h k
    cases hs : step s with
    | next u =>
      rw [run_succ hs] at h
      rw [show j + 1 + k = (j + k) + 1 by omega, run_succ hs]
      exact ih h k
    | fault r => exact nomatch r
    | refused r =>
      have : run (j + 1) s = .refused r := core_run_refused Sys2Proof.core hs j
      rw [this] at h; cases h

end Sys2Proof.Machine
end

