-- ==== Sys2Proof/Tests/Slice0.lean ====
section
/-! SUPPORT. Tests of the model on vectors of 95_test_vectors.md (named in each comment; their words are written out from
30_encoding.md R55, R56) and, in the second half, a witness for the hypotheses of each obligation. -/

namespace Sys2Proof.Tests

open Sys2Proof.Machine

/-! ## Well-formedness: an ill-formed term for each check -/

theorem test_duration_too_long_refused :
    (AsmCommand.setpd 4294967296).wellFormed = false ∧ (AsmCommand.create1 4294967296).wellFormed = false ∧
    (AsmCommand.create2 4294967296).wellFormed = false ∧ (AsmCommand.setpd 4294967295).wellFormed = true := by decide

theorem test_count_out_of_range_refused :
    (AsmCommand.stepf 2147483648).wellFormed = false ∧ (AsmCommand.stepb (-2147483649)).wellFormed = false ∧
    (AsmCommand.stepf 2147483647).wellFormed = true ∧ (AsmCommand.stepb (-2147483648)).wellFormed = true := by decide

theorem test_reserved_opcode_refused :
    CmdWord.wellFormed 0x000000000#36 = false ∧ CmdWord.wellFormed 0xA00000055#36 = false ∧
    CmdWord.wellFormed 0xFFFFFFFFF#36 = false ∧ CmdWord.wellFormed 0x1FFFFFFFF#36 = true ∧
    CmdWord.wellFormed 0x9FFFFFFFF#36 = true := by decide

theorem test_ill_formed_line_has_no_word : assemble (.setpd 4294967296) = none := by decide

/-! ## Decoding: words bit by bit from R56, operands from V-E1 to V-E16 -/

theorem test_decode_create1 :
    decode 0b000100000000000000000000001111101000#36 = .command (.create1 1000) := by decide

theorem test_decode_create2 :
    decode 0b001000000000000000000000000000000000#36 = .command (.create2 0) := by decide

theorem test_decode_stepf :
    decode 0b001101111111111111111111111111111111#36 = .command (.stepf 2147483647) := by decide

theorem test_decode_stepb :
    decode 0b010011111111111111111111111111111111#36 = .command (.stepb (BitVec.ofInt 32 (-1))) := by decide

theorem test_decode_holdon :
    decode 0b010111011110101011011011111011101111#36 = .command .holdon := by decide

theorem test_decode_holdoff :
    decode 0b011000000000000000000000000000000000#36 = .command .holdoff := by decide

theorem test_decode_setpd :
    decode 0b011111111111111111111111111111111111#36 = .command (.setpd 4294967295) := by decide

theorem test_decode_getpd :
    decode 0b100000000000000000000000000000000000#36 = .command .getpd := by decide

theorem test_decode_release :
    decode 0b100100000000000000000000000000000000#36 = .command .release := by decide

theorem test_decode_reserved :
    decode 0b000000000000000000000000000000000000#36 = .rejected (.reservedOpcode 0x0) ∧
    decode 0b111111111111111111111111111111111111#36 = .rejected (.reservedOpcode 0xF) := by decide

/-- A table row has 36 bits, 40 in whole bytes; no bit stands above `cmd[35]` (R55). -/
theorem test_table_word :
    decodeTableWord 40 0x300000004 = some (.stepf 4) ∧ decodeTableWord 40 0xA00000000 = none ∧
    decodeTableWord 40 0x1300000004 = none := by decide

/-! ## One step on the derived vectors -/

/-- `S_{t+1}`, as data that can be compared. -/
def after (s : State) : Option State :=
  match step s with
  | .next t => some t
  | .fault _ => none
  | .refused _ => none

/-- ACT1 of 95_test_vectors.md. -/
def act1 : State := { State.reset with life := .active, pinOwn := 0b011111 }

/-- ACT2 of 95_test_vectors.md. -/
def act2 : State := { State.reset with life := .active, twoEn := true, pinOwn := 0b111111 }

/-- A released engine. -/
def gone : State := { State.reset with life := .released }

/-- A step command in progress: V-S9's state. -/
def stepping : State :=
  { act1 with phaseState := 1, pulseDuration := 3, enLvl := true, ctrl := .pulse, timer := 3, stepsLeft := 2 }

/-- The host presents `w` in one cycle, the collaborator answering `acqOk` and `relOk`. -/
def word (w : CmdWord) (acqOk relOk : PinVec) : Input :=
  { rst := false, cmdValid := true, cmd := w, acqOk := acqOk, relOk := relOk }

/-- `s` with `w` presented in this cycle, every answer success. -/
def sent (w : CmdWord) (s : State) : State := { s with inputs := [word w 0b111111 0b111111] }

/-- V-C3: bit 5 of `acq_ok` is not asked for. -/
theorem test_create1_ignores_bit5 :
    after { State.reset with inputs := [word 0x100000000 0b011111 0] } =
      some { act1 with rspValid := true } := by decide

/-- V-C5: no pin acquired. -/
theorem test_create1_all_failed :
    after { State.reset with inputs := [word 0x1FFFFFFFF 0b000000 0] } =
      some { State.reset with
        life := .active, acqFail := 0b011111, pulseDuration := 0xFFFFFFFF, rspValid := true, rspCode := 2
        rspData := 0x1F } := by decide

/-- V-C4. -/
theorem test_create2_some_failed :
    after { State.reset with inputs := [word 0x200000007 0b001010 0] } =
      some { State.reset with
        life := .active, twoEn := true, pinOwn := 0b001010, acqFail := 0b110101, pulseDuration := 7, rspValid := true
        rspCode := 2, rspData := 0x35 } := by decide

/-- V-X-A2. -/
theorem test_create2_twice :
    after (sent 0x200000001 { act1 with phaseState := 1, pulseDuration := 4 }) =
      some { act1 with phaseState := 1, pulseDuration := 4, eLife := true, rspValid := true, rspCode := 6 } := by decide

/-- V-S-F3: the wrap. -/
theorem test_stepf_wraps :
    after (sent 0x300000001 { act1 with phaseState := 3, pulseDuration := 3 }) =
      some { act1 with phaseState := 0, pulseDuration := 3, enLvl := true, ctrl := .pulse, timer := 3 } := by decide

/-- V-S16: the guard keeps `direction`. -/
theorem test_stepf_minus_one :
    after (sent 0x3FFFFFFFF { act1 with phaseState := 2, direction := .backward, pulseDuration := 3 }) =
      some { act1 with
        phaseState := 2, direction := .backward, pulseDuration := 3, warn := true, rspValid := true, rspCode := 1 } := by
  decide

/-- V-S-B0: the wrap the other way. -/
theorem test_stepb_wraps :
    after (sent 0x400000001 { act1 with pulseDuration := 3 }) =
      some { act1 with
        phaseState := 3, direction := .backward, pulseDuration := 3, enLvl := true, ctrl := .pulse, timer := 3 } := by
  decide

/-- V-S18: the largest count. -/
theorem test_stepb_largest_count :
    (after (sent 0x47FFFFFFF { act1 with phaseState := 2, pulseDuration := 3 })).map
      (fun t => (t.phaseState, t.stepsLeft, t.timer)) = some (1, 0x7FFFFFFE, 3) := by decide

/-- V-H2. -/
theorem test_holdon :
    after (sent 0x5DEADBEEF { act2 with phaseState := 3 }) =
      some { act2 with phaseState := 3, holdEnabled := true, enLvl := true, rspValid := true } := by decide

/-- V-H3: the enable level is low in the next cycle. -/
theorem test_holdoff_at_once :
    after (sent 0x600000000 { act1 with phaseState := 2, holdEnabled := true, enLvl := true }) =
      some { act1 with phaseState := 2, rspValid := true } := by decide

/-- V-G4. -/
theorem test_setpd_largest :
    after (sent 0x7FFFFFFFF { act1 with pulseDuration := 1000 }) =
      some { act1 with pulseDuration := 0xFFFFFFFF, rspValid := true } := by decide

/-- V-G5. -/
theorem test_getpd :
    after (sent 0x812345678 { act1 with pulseDuration := 0xFFFFFFFF }) =
      some { act1 with pulseDuration := 0xFFFFFFFF, rspValid := true, rspData := 0xFFFFFFFF } := by decide

/-- V-X-R8: data 0, not the pulse duration. -/
theorem test_getpd_released :
    after (sent 0x800000001 { gone with phaseState := 1, pulseDuration := 4 }) =
      some { gone with phaseState := 1, pulseDuration := 4, eLife := true, rspValid := true, rspCode := 7 } := by decide

/-- V-R2: hold and level stay, no pin shows them. -/
theorem test_release_some_failed :
    after { act2 with
      phaseState := 2, holdEnabled := true, enLvl := true, inputs := [word 0x900000000 0 0b101101] } =
      some { gone with
        twoEn := true, phaseState := 2, holdEnabled := true, enLvl := true, relFail := 0b010010, rspValid := true
        rspCode := 3, rspData := 0x12 } := by decide

/-- V-R5: nothing owned, nothing to fail. -/
theorem test_release_unowned :
    after { act1 with pinOwn := 0, acqFail := 0b011111, inputs := [word 0x900000000 0 0] } =
      some { gone with acqFail := 0b011111, rspValid := true } := by decide

/-- V-S14 with V-S9: HOLDOFF presented while stepping is not looked at. -/
theorem test_dwell_ignores_word :
    after (sent 0x600000000 stepping) = some { stepping with timer := 2 } := by decide

/-- V-S11: a backward repetition. -/
theorem test_next_repetition_backward :
    after { stepping with timer := 0, direction := .backward } =
      some { stepping with phaseState := 0, stepsLeft := 1, direction := .backward } := by decide

/-- V-S12. -/
theorem test_completion :
    after { stepping with timer := 0, stepsLeft := 0 } =
      some { act1 with phaseState := 1, pulseDuration := 3, rspValid := true } := by decide

/-- V-S13: with hold the enable level stays. -/
theorem test_completion_hold :
    after { stepping with timer := 0, stepsLeft := 0, holdEnabled := true } =
      some { act1 with phaseState := 1, pulseDuration := 3, holdEnabled := true, enLvl := true, rspValid := true } := by
  decide

/-- V-X-I-REL: the reserved opcode is found before the lifecycle check. -/
theorem test_reserved_before_lifecycle :
    after (sent 0x000000000 gone) = some { gone with eIllegal := true, rspValid := true, rspCode := 4 } := by decide

/-- V-X-GU: the lifecycle check comes before the count guard. -/
theorem test_lifecycle_before_guard :
    after (sent 0x300000000 State.reset) =
      some { State.reset with eLife := true, rspValid := true, rspCode := 5 } := by decide

/-- V-Z1. -/
theorem test_reset_in_mid_step :
    after { act2 with
      phaseState := 2, direction := .backward, holdEnabled := true, pulseDuration := 77, enLvl := true, ctrl := .pulse
      timer := 5, stepsLeft := 9, warn := true, eIllegal := true, eLife := true, rspValid := true, rspCode := 7
      rspData := 3, inputs := [{ word 0x500000000 0 0 with rst := true }] } = some State.reset := by decide

/-- V-Z5: the code and the data stay. -/
theorem test_quiet_edge :
    after { act1 with phaseState := 2, rspValid := true, rspData := 5 } =
      some { act1 with phaseState := 2, rspData := 5 } := by decide

/-- V-S21 after: row 2, D not owned, enable high. -/
theorem test_pins_degraded :
    [Pin.a, .b, .c, .d, .en0, .en1].map
      ({ act1 with pinOwn := 0b010111, phaseState := 2, enLvl := true } : State).pinLevel =
      [.low, .high, .low, .z, .high, .z] := by decide

/-- A table word placed at the port is run by the next step (V-X-U3's word, from reset). -/
theorem test_placed_word :
    after (State.reset.withFetchWord 40 0x300000001) =
      some { State.reset with eLife := true, rspValid := true, rspCode := 5 } ∧
    after (State.reset.withFetchWord 40 0x1000003E8) =
      some { act1 with pulseDuration := 1000, rspValid := true } := by decide

/-- Program P2, cycles 2 to 5: `WAIT 1` passes one cycle with the port open, then RELEASE is presented. -/
theorem test_host_wait :
    hostCycle false [.wait 1, .command .release 0 0b111110] = (Input.idle, [.wait 1, .command .release 0 0b111110]) ∧
    hostCycle true [.wait 1, .command .release 0 0b111110] = (Input.idle, [.wait 0, .command .release 0 0b111110]) ∧
    hostCycle true [.wait 0, .command .release 0 0b111110] = (word 0x900000000 0 0b111110, []) := by decide

/-! ## Witnesses: the hypotheses of each obligation can be met -/

theorem witness_decode_encode_agree :
    decode 0x5DEADBEEF#36 = .command .holdon ∧ decode 0x37FFFFFFF#36 = .command (.stepf 0x7FFFFFFF) := by decide

theorem witness_opcode_selects_command :
    0x1FFFFFFFF#36 &&& 0xF00000000#36 = 0x100000000#36 ∧ 0x200000000#36 &&& 0xF00000000#36 = 0x200000000#36 ∧
    0x37FFFFFFF#36 &&& 0xF00000000#36 = 0x300000000#36 ∧ 0x480000000#36 &&& 0xF00000000#36 = 0x400000000#36 ∧
    0x5DEADBEEF#36 &&& 0xF00000000#36 = 0x500000000#36 ∧ 0x600000000#36 &&& 0xF00000000#36 = 0x600000000#36 ∧
    0x7FFFFFFFF#36 &&& 0xF00000000#36 = 0x700000000#36 ∧ 0x812345678#36 &&& 0xF00000000#36 = 0x800000000#36 ∧
    0x9FFFFFFFF#36 &&& 0xF00000000#36 = 0x900000000#36 ∧
    (BitVec.extractLsb' 32 4 0x0FFFFFFFF#36).toNat = 0 ∧ 10 ≤ (BitVec.extractLsb' 32 4 0xA00000000#36).toNat ∧
    10 ≤ (BitVec.extractLsb' 32 4 0xFFFFFFFFF#36).toNat := by decide

theorem witness_assembled_line_decodes :
    (AsmCommand.stepb (-1)).wellFormed = true ∧ (AsmCommand.create2 4294967295).wellFormed = true ∧
    (-2 ^ 31 : Int) ≤ -2147483648 ∧ (2147483647 : Int) < 2 ^ 31 ∧
    (4294967295 : Nat) < 2 ^ 32 ∧ (AsmCommand.create2 4294967296).wellFormed = false := by decide

theorem witness_step_runs_accepted_command :
    (sent 0x300000001 act1).input.rst = false ∧ (sent 0x300000001 act1).input.cmdValid = true ∧
    (sent 0x300000001 act1).ctrl = .idle ∧ decode (sent 0x300000001 act1).input.cmd = .command (.stepf 1) := by decide

theorem witness_placed_word_runs_next : decodeTableWord 40 0x9FFFFFFFF = some .release := by decide

theorem witness_reserved_opcode_fault : ∀ s ∈ [sent 0x000000000 State.reset, sent 0xA00000055 act1, sent 0xFFFFFFFFF gone],
    s.input.rst = false ∧ s.input.cmdValid = true ∧ s.ctrl = .idle ∧
    ((s.input.cmd.extractLsb' 32 4).toNat = 0 ∨ 10 ≤ (s.input.cmd.extractLsb' 32 4).toNat) := by decide

theorem witness_port_ignored_unless_accepted :
    stepping.ctrl = .pulse ∧ (word 0x600000000 0 0).rst = false ∧ Input.idle.rst = false ∧
    Input.idle.cmdValid = false ∧ ({ word 0x300000001 0 0 with cmdValid := false } : Input).cmdValid = false := by decide

theorem witness_quiescent_edge : act1.input.rst = false ∧ act1.ctrl = .idle ∧ act1.input.cmdValid = false := by decide

theorem witness_reset_edge :
    ({ stepping with inputs := [{ word 0x500000000 0 0 with rst := true }] } : State).input.rst = true := by decide

/-- The three lifecycle cases of the result statements. -/
theorem witness_results_life : State.reset.life = .unbound ∧ act1.life = .active ∧ gone.life = .released := by decide

/-- Answers that a create command finds all success, and some failure. -/
theorem witness_create_answers :
    (0b011111#6 &&& ~~~(sent 0x100000000 State.reset).input.acqOk = 0) ∧
    (~~~(sent 0x200000000 State.reset).input.acqOk = 0) ∧
    (0b011111#6 &&& ~~~(word 0x100000000 0b110111 0).acqOk ≠ 0) ∧
    (~~~(word 0x200000000 0b011111 0).acqOk ≠ 0) := by decide

/-- The two count cases of STEPF and STEPB, at their ends. -/
theorem witness_step_counts :
    1 ≤ (1#32).toInt ∧ 1 ≤ (0x7FFFFFFF#32).toInt ∧ (0#32).toInt < 1 ∧ (0xFFFFFFFF#32).toInt < 1 ∧
    (0x80000000#32).toInt < 1 := by decide

/-- A word of HOLDON, HOLDOFF, RELEASE presented while a step command is in progress. -/
theorem witness_ignored_while_busy :
    (∀ w : CmdWord, w = 0x500000000 ∨ w = 0x600000000 ∨ w = 0x900000000 →
      (sent w stepping).input.rst = false ∧ (sent w stepping).ctrl = .pulse) ∧
    decode (sent 0x500000000 stepping).input.cmd = .command .holdon ∧
    decode (sent 0x600000000 stepping).input.cmd = .command .holdoff ∧
    decode (sent 0x900000000 stepping).input.cmd = .command .release :=
  ⟨fun _ _ => ⟨rfl, rfl⟩, by decide, by decide, by decide⟩

theorem witness_lifecycle_check :
    (State.reset.life = .unbound ∧ ∀ imm, Instr.getpd ≠ .create1 imm ∧ Instr.getpd ≠ .create2 imm) ∧
    (act1.life = .active ∧ ∃ imm, Instr.create2 7 = .create1 imm ∨ Instr.create2 7 = .create2 imm) ∧
    gone.life = .released ∧
    (State.reset.life = .unbound ∧ ∃ imm, Instr.create1 7 = .create1 imm ∨ Instr.create1 7 = .create2 imm) ∧
    (act1.life = .active ∧ ∀ imm, Instr.stepb 0 ≠ .create1 imm ∧ Instr.stepb 0 ≠ .create2 imm) :=
  ⟨⟨rfl, fun _ => ⟨nofun, nofun⟩⟩, ⟨rfl, 7, .inr rfl⟩, rfl, ⟨rfl, 7, .inl rfl⟩, ⟨rfl, fun _ => ⟨nofun, nofun⟩⟩⟩

/-- `timer` at its largest and at 1. -/
theorem witness_dwell_edge : ∀ n : Word, n = 1 ∨ n = 0xFFFFFFFF →
    ({ stepping with timer := n } : State).input.rst = false ∧ ({ stepping with timer := n } : State).ctrl = .pulse ∧
    ({ stepping with timer := n } : State).timer ≠ 0 := by
  rintro n (rfl | rfl) <;> decide

theorem witness_next_repetition_edge : ∀ s ∈ [{ stepping with timer := 0, stepsLeft := 1 },
      { stepping with timer := 0, direction := .backward, stepsLeft := 0x7FFFFFFE }],
    s.input.rst = false ∧ s.ctrl = .pulse ∧ s.timer = 0 ∧ s.stepsLeft ≠ 0 := by decide

theorem witness_completion_edge : ∀ s ∈ [{ stepping with timer := 0, stepsLeft := 0 },
      { stepping with timer := 0, stepsLeft := 0, holdEnabled := true }],
    s.input.rst = false ∧ s.ctrl = .pulse ∧ s.timer = 0 ∧ s.stepsLeft = 0 := by decide

/-- An accepted command, from what decides it. -/
theorem accepts_of {s : State} {i : Instr} (h : s.input.rst = false ∧ s.input.cmdValid = true ∧ s.ctrl = .idle)
    (hd : decode s.input.cmd = .command i) : s.acceptsCommand i := ⟨h, hd⟩

/-- V-T3: 4 repetitions of 3 cycles; and V-T1, the shortest command. -/
theorem witness_step_timing_law :
    ((sent 0x300000004 { act1 with pulseDuration := 2 }).acceptsCommand (stepInstr .forward 4) ∧
      1 ≤ (4#32).toInt ∧
      ∀ k, k ≤ 4 * (2 + 1) → ((sent 0x300000004 { act1 with pulseDuration := 2 }).inputAt k).rst = false) ∧
    ((sent 0x400000001 act1).acceptsCommand (stepInstr .backward 1) ∧ 1 ≤ (1#32).toInt ∧
      ∀ k, k ≤ 1 * (0 + 1) → ((sent 0x400000001 act1).inputAt k).rst = false) :=
  ⟨⟨accepts_of (by decide) (by decide), by decide, by decide⟩, ⟨accepts_of (by decide) (by decide), by decide, by decide⟩⟩

/-- P4: STEP1F then STEP1B; and the count 0, both guarded. -/
theorem witness_opposite_steps :
    (let s : State := { act1 with
        pulseDuration := 1
        inputs := [word 0x300000001 0 0, Input.idle, Input.idle, word 0x400000001 0 0] };
      s.acceptsCommand (stepInstr .forward 1) ∧ s.life = .active ∧ 0 ≤ (1#32).toInt ∧
      (s.inputAt (1 + 1 * (1 + 1))).cmdValid = true ∧
      decode (s.inputAt (1 + 1 * (1 + 1))).cmd = .command (stepInstr Direction.forward.opposite 1) ∧
      ∀ k, k < 2 * (1 + 1 * (1 + 1)) → (s.inputAt k).rst = false) ∧
    (let s : State := { act1 with inputs := [word 0x400000000 0 0, word 0x300000000 0 0] };
      s.acceptsCommand (stepInstr .backward 0) ∧ s.life = .active ∧ 0 ≤ (0#32).toInt ∧
      (s.inputAt (1 + 0 * (0 + 1))).cmdValid = true ∧
      decode (s.inputAt (1 + 0 * (0 + 1))).cmd = .command (stepInstr Direction.backward.opposite 0) ∧
      ∀ k, k < 2 * (1 + 0 * (0 + 1)) → (s.inputAt k).rst = false) :=
  ⟨⟨accepts_of (by decide) (by decide), rfl, by decide, by decide, by decide, by decide⟩,
    ⟨accepts_of (by decide) (by decide), rfl, by decide, by decide, by decide, by decide⟩⟩

theorem witness_period_four :
    (sent 0x300000004 act1).acceptsCommand (stepInstr .forward 4) ∧ 1 ≤ (4#32).toInt ∧ 4 ∣ (4#32).toNat ∧
    ∀ k, k ≤ (4#32).toNat * ((0#32).toNat + 1) → ((sent 0x300000004 act1).inputAt k).rst = false :=
  ⟨accepts_of (by decide) (by decide), by decide, by decide, by decide⟩

theorem witness_single_step_commands :
    ((sent 0x300000001 act1).accepts ∧ assemble .step1f = some (sent 0x300000001 act1).input.cmd) ∧
    ((sent 0x400000001 act1).accepts ∧ assemble .step1b = some (sent 0x400000001 act1).input.cmd) ∧
    act1.life = .active ∧ ∀ k, k ≤ 0 + 1 → ((sent 0x300000001 act1).inputAt k).rst = false :=
  ⟨⟨⟨rfl, rfl, rfl⟩, by decide⟩, ⟨⟨rfl, rfl, rfl⟩, by decide⟩, rfl, by decide⟩

theorem starts_stepf : (sent 0x300000001 act1).startsStep :=
  ⟨rfl, .forward, 1, accepts_of (by decide) (by decide), by decide⟩

theorem starts_largest : (sent 0x47FFFFFFF act1).startsStep :=
  ⟨rfl, .backward, 0x7FFFFFFF, accepts_of (by decide) (by decide), by decide⟩

theorem holdon_starts_nothing : (sent 0x500000000 act1).accepts ∧ ¬ (sent 0x500000000 act1).startsStep := by
  refine ⟨⟨rfl, rfl, rfl⟩, ?_⟩
  rintro ⟨-, d, imm, ⟨-, hd⟩, -⟩
  have h : decode 0x500000000#36 = .command .holdon := by decide
  have hd : decode 0x500000000#36 = .command (stepInstr d imm) := hd
  rw [h] at hd
  cases d <;> cases hd

/-- The rows of R95, each met by a state that has a next state. -/
theorem witness_ctrl_transition_table :
    (∃ t, step ({ stepping with inputs := [{ Input.idle with rst := true }] } : State) = .next t) ∧
    (∃ t, step act1 = .next t ∧ act1.input.rst = false ∧ act1.ctrl = .idle ∧ act1.input.cmdValid = false) ∧
    (∃ t, step (sent 0x300000001 act1) = .next t ∧ (sent 0x300000001 act1).startsStep) ∧
    (∃ t, step (sent 0x500000000 act1) = .next t ∧ (sent 0x500000000 act1).accepts ∧
      ¬ (sent 0x500000000 act1).startsStep) ∧
    (∃ t, step stepping = .next t ∧ stepping.input.rst = false ∧ stepping.ctrl = .pulse ∧ stepping.timer ≠ 0) :=
  ⟨⟨_, rfl⟩, ⟨_, rfl, rfl, rfl, rfl⟩, ⟨_, rfl, starts_stepf⟩,
    ⟨_, rfl, holdon_starts_nothing.1, holdon_starts_nothing.2⟩, ⟨_, rfl, rfl, rfl, by decide⟩⟩

theorem witness_pulse_measure_decreases : ∀ s ∈ [stepping, { stepping with timer := 0 },
      { stepping with timer := 0, stepsLeft := 0 }],
    s.input.rst = false ∧ s.ctrl = .pulse := by decide

/-- The largest count loads `steps_left` with 2^31 - 2. -/
theorem witness_counters_never_wrap :
    (sent 0x47FFFFFFF act1).input.rst = false ∧ (sent 0x47FFFFFFF act1).startsStep ∧
    (after (sent 0x47FFFFFFF act1)).map State.stepsLeft = some 0x7FFFFFFE := ⟨rfl, starts_largest, by decide⟩

theorem witness_pulse_frame : stepping.input.rst = false ∧ stepping.ctrl = .pulse ∧ ¬ stepping.completesStep :=
  ⟨rfl, rfl, fun h => absurd h.2.2.1 (by decide)⟩

theorem create1_creates : (sent 0x100000002 State.reset).creates := ⟨rfl, 2, .inl (accepts_of (by decide) (by decide))⟩

theorem release_releases : (sent 0x900000000 act1).releases := ⟨rfl, accepts_of (by decide) (by decide)⟩

theorem quiet_does_nothing : ¬ act1.startsStep ∧ ¬ act1.startsNextRepetition ∧ ¬ act1.creates ∧ ¬ act1.releases :=
  ⟨fun ⟨_, _, _, h, _⟩ => (nomatch h.1.2.1), fun h => (nomatch h.2.1), fun h => (nomatch h.1),
    fun h => (nomatch h.2.1.2.1)⟩

theorem witness_phase_moves_only_by_one :
    (sent 0x300000001 act1).startsStep ∧
    ({ stepping with timer := 0, direction := .backward } : State).startsNextRepetition ∧
    (sent 0x100000002 State.reset).creates ∧
    ({ stepping with inputs := [{ Input.idle with rst := true }] } : State).input.rst = true ∧
    (¬ act1.startsStep ∧ ¬ act1.startsNextRepetition ∧ ¬ act1.creates ∧ act1.input.rst = false) :=
  ⟨starts_stepf, ⟨rfl, rfl, rfl, by decide⟩, create1_creates, rfl,
    quiet_does_nothing.1, quiet_does_nothing.2.1, quiet_does_nothing.2.2.1, rfl⟩

theorem witness_life_transitions :
    (sent 0x100000002 State.reset).creates ∧ (sent 0x900000000 act1).releases ∧
    (act1.input.rst = false ∧ ¬ act1.creates ∧ ¬ act1.releases) ∧
    ({ gone with inputs := [{ Input.idle with rst := true }] } : State).input.rst = true :=
  ⟨create1_creates, release_releases, ⟨rfl, quiet_does_nothing.2.2⟩, rfl⟩

/-- Each register changes somewhere without a reset. -/
theorem witness_written_by_column :
    (let s := { State.reset with inputs := [word 0x200000005 0b110111 0] };
      (after s).any fun t => t.life ≠ s.life ∧ t.twoEn ≠ s.twoEn ∧ t.pinOwn ≠ s.pinOwn ∧
        t.pulseDuration ≠ s.pulseDuration ∧ t.acqFail ≠ s.acqFail) = true ∧
    (let s := sent 0x400000002 { act1 with pulseDuration := 3 };
      (after s).any fun t => t.phaseState ≠ s.phaseState ∧ t.direction ≠ s.direction ∧ t.enLvl ≠ s.enLvl ∧
        t.ctrl ≠ s.ctrl ∧ t.timer ≠ s.timer ∧ t.stepsLeft ≠ s.stepsLeft) = true ∧
    (let s := sent 0x500000000 act1; (after s).any fun t => t.holdEnabled ≠ s.holdEnabled) = true ∧
    (let s := { act1 with inputs := [word 0x900000000 0 0] }; (after s).any fun t => t.relFail ≠ s.relFail) = true ∧
    (let s := sent 0x300000000 act1; (after s).any fun t => t.warn ≠ s.warn) = true ∧
    (let s := sent 0x000000000 act1; (after s).any fun t => t.eIllegal ≠ s.eIllegal) = true ∧
    (let s := sent 0x100000000 act1; (after s).any fun t => t.eLife ≠ s.eLife) = true := by decide

/-- Each sticky bit is set by its condition. -/
theorem witness_sticky_bits :
    (sent 0x000000000 gone).acceptsReserved ∧ (sent 0x900000000 gone).violatesLife ∧
    ((sent 0x380000000 act1).acceptsCommand (stepInstr .forward 0x80000000) ∧ (0x80000000#32).toInt < 1) :=
  ⟨⟨⟨rfl, rfl, rfl⟩, by decide⟩, ⟨.release, accepts_of (by decide) (by decide), .inl rfl⟩,
    accepts_of (by decide) (by decide), by decide⟩

theorem act1_invariants : Invariants act1 := by constructor <;> decide

theorem stepping_invariants : Invariants stepping := by constructor <;> decide

theorem gone_invariants : Invariants { gone with relFail := 0b000001, phaseState := 1 } := by constructor <;> decide

theorem degraded_invariants : Invariants { act1 with pinOwn := 0b010111, acqFail := 0b001000 } := by
  constructor <;> decide

theorem witness_failure_records_kept :
    Invariants act1 ∧ act1.input.rst = false ∧ act1.life ≠ .unbound ∧
    Invariants { gone with relFail := 0b000001, phaseState := 1 } ∧ gone.life = .released ∧
    ∃ t, step act1 = .next t := ⟨act1_invariants, rfl, by decide, gone_invariants, rfl, _, rfl⟩

theorem witness_configuration_fixed :
    act1.life ≠ .unbound ∧ gone.life ≠ .unbound ∧ act1.input.rst = false ∧ ∃ t, step act1 = .next t :=
  ⟨by decide, by decide, rfl, _, rfl⟩

theorem witness_response_rule :
    (sent 0x500000000 act1).input.rst = false ∧ (sent 0x500000000 act1).accepts ∧
    ¬ (sent 0x500000000 act1).startsStep ∧ ({ stepping with timer := 0, stepsLeft := 0 } : State).completesStep ∧
    (after stepping).map State.rspValid = some false :=
  ⟨rfl, holdon_starts_nothing.1, holdon_starts_nothing.2, ⟨rfl, rfl, rfl, rfl⟩, by decide⟩

/-- Each code that the statement speaks of is reported by an accepted command. -/
theorem witness_reports_precise :
    (∀ s ∈ [sent 0x300000000 act1, sent 0xA00000000 act1, sent 0x800000000 State.reset, sent 0x100000000 act1,
        sent 0x500000000 gone, { State.reset with inputs := [word 0x100000001 0b110111 0] },
        { State.reset with inputs := [word 0x200000001 0b011111 0] },
        { act1 with inputs := [word 0x900000000 0 0b111110] }],
      s.accepts ∧ ∃ t, step s = .next t ∧ t.rspValid = true) ∧
    [sent 0x300000000 act1, sent 0xA00000000 act1, sent 0x800000000 State.reset, sent 0x100000000 act1,
        sent 0x500000000 gone, { State.reset with inputs := [word 0x100000001 0b110111 0] },
        { State.reset with inputs := [word 0x200000001 0b011111 0] },
        { act1 with inputs := [word 0x900000000 0 0b111110] }].map (fun s => (after s).map State.rspCode) =
      [some 1, some 4, some 5, some 6, some 7, some 2, some 2, some 3] := by
  refine ⟨?_, by decide⟩
  simp only [List.mem_cons, List.not_mem_nil, or_false]
  rintro s (rfl | rfl | rfl | rfl | rfl | rfl | rfl | rfl) <;> exact ⟨⟨rfl, rfl, rfl⟩, _, rfl, rfl⟩

theorem witness_answers_read_only_where_said :
    ¬ State.creates { act1 with inputs := [Input.idle] } ∧ ¬ State.releases { act1 with inputs := [Input.idle] } ∧
    (decode (word 0x100000002 0b111111 0).cmd = .command (.create1 2) ∧
      0b011111#6 &&& 0b011111 = (word 0x100000002 0b111111 0).acqOk &&& 0b011111) ∧
    0b011111#6 &&& act1.pinOwn = (word 0x900000000 0 0b111111).relOk &&& act1.pinOwn :=
  ⟨(fun h => nomatch h.1), (fun h => nomatch h.2.1.2.1), by decide, by decide⟩

theorem witness_pulse_duration_reads_back :
    let s : State := { act1 with inputs := [word 0x700000005 0 0, word 0x800000000 0 0] }
    s.life = .active ∧ s.acceptsCommand (.setpd 5) ∧ (s.inputAt 1).rst = false ∧ (s.inputAt 1).cmdValid = true ∧
    decode (s.inputAt 1).cmd = .command .getpd := ⟨rfl, accepts_of (by decide) (by decide), rfl, rfl, by decide⟩

theorem witness_held_create :
    (let s : State := { State.reset with inputs := [word 0x100000002 0 0, word 0x100000002 0 0] };
      s.life = .unbound ∧ s.acceptsCommand (.create1 2) ∧ s.inputAt 1 = s.input) ∧
    (let s : State := { State.reset with inputs := [word 0x2FFFFFFFF 0b111111 0, word 0x2FFFFFFFF 0b111111 0] };
      s.life = .unbound ∧ s.acceptsCommand (.create2 0xFFFFFFFF) ∧ s.inputAt 1 = s.input) :=
  ⟨⟨rfl, accepts_of (by decide) (by decide), rfl⟩, ⟨rfl, accepts_of (by decide) (by decide), rfl⟩⟩

theorem witness_step_keeps_invariants :
    Invariants stepping ∧ Invariants { act1 with pinOwn := 0b010111, acqFail := 0b001000 } ∧
    ∃ t, step stepping = .next t := ⟨stepping_invariants, degraded_invariants, _, rfl⟩

theorem witness_reachable_states :
    ∃ t, run 2 { State.reset with inputs := [word 0x100000002 0b111111 0, word 0x300000001 0 0] } = .next t ∧
      t.ctrl = .pulse := ⟨_, rfl, rfl⟩

theorem witness_pin_levels : ∀ i, i < 6 → act2.pinOwn.getLsbD i = true := by decide

theorem witness_undriven_pins :
    (Invariants State.reset ∧ State.reset.life = .unbound) ∧
    (Invariants { gone with relFail := 0b000001, phaseState := 1 } ∧ gone.life = .released) ∧
    (Invariants act1 ∧ act1.twoEn = false) ∧
    (Invariants act2 ∧ act2.pinLevel .en0 ≠ .z ∧ act2.pinLevel .en1 ≠ .z) ∧
    ({ stepping with inputs := [{ Input.idle with rst := true }] } : State).input.rst = true :=
  ⟨⟨by constructor <;> decide, rfl⟩, ⟨gone_invariants, rfl⟩, ⟨act1_invariants, rfl⟩,
    ⟨by constructor <;> decide, by decide, by decide⟩, rfl⟩

theorem witness_successful_create :
    State.reset.life = .unbound ∧ State.reset.noFaultRecorded = true ∧
    ((sent 0x100000002 State.reset).acceptsCommand (.create1 2) ∧
      (sent 0x100000002 State.reset).input.acqOk &&& 0b011111 = 0b011111) ∧
    ((sent 0x200000000 State.reset).acceptsCommand (.create2 0) ∧
      (sent 0x200000000 State.reset).input.acqOk = 0b111111) :=
  ⟨rfl, rfl, ⟨accepts_of (by decide) (by decide), by decide⟩, ⟨accepts_of (by decide) (by decide), by decide⟩⟩

end Sys2Proof.Tests
end

section
/-! SUPPORT. The events of an edge: which one thing an edge does, when it does it, and what it writes. One step is the
effect of the state's event (`step_eq_effect`), and the event is the one whose condition holds (`event_eq_iff`). -/

namespace Sys2Proof.Machine

open Sys2Proof

/-! ## Events -/

/-- What one edge can do (R61, R86 to R88, R130, R140). -/
inductive Event where
  | reset | dwell | nextRepetition | completion | quiet | reserved
  | violation (code : ReportCode)
  | create (twoEn : Bool) (imm : Word)
  | countWarning (d : Direction) (imm : Word)
  | start (d : Direction) (imm : Word)
  | hold (on : Bool)
  | setpd (imm : Word)
  | getpd
  | release

/-- The register writes of an event, by the model's own operations. -/
def Event.effect : Event → State → State
  | .reset => State.resetRegisters
  | .dwell => Machine.dwell
  | .nextRepetition => Machine.nextRepetition
  | .completion => completeStep
  | .quiet => State.noReport
  | .reserved => reservedOpcode
  | .violation code => takeFault .life code
  | .create m imm => Machine.create m imm
  | .countWarning _ _ => Machine.countWarning
  | .start d imm => stepStart d imm
  | .hold on => setHold on
  | .setpd imm => setPulse imm
  | .getpd => getPulse
  | .release => releasePins

/-- CREATE1 or CREATE2, by the number of enable pins (R71, R72). -/
def createInstr : Bool → Word → Instr
  | false, imm => .create1 imm
  | true, imm => .create2 imm

/-- HOLDON or HOLDOFF (R100, R101). -/
def holdInstr : Bool → Instr
  | true => .holdon
  | false => .holdoff

/-- The commands that R123 allows in UNBOUND alone. -/
def isCreate : Instr → Bool
  | .create1 _ | .create2 _ => true
  | _ => false

/-- When an event happens. -/
def Event.guard (s : State) : Event → Prop
  | .reset => s.input.rst = true
  | .dwell => s.input.rst = false ∧ s.ctrl = .pulse ∧ s.timer ≠ 0
  | .nextRepetition => s.startsNextRepetition
  | .completion => s.completesStep
  | .quiet => s.input.rst = false ∧ s.ctrl = .idle ∧ s.input.cmdValid = false
  | .reserved => s.acceptsReserved
  | .violation code => ∃ i, s.acceptsCommand i ∧ lifeViolation (isCreate i) s.life = some code
  | .create m imm => s.life = .unbound ∧ s.acceptsCommand (createInstr m imm)
  | .countWarning d imm => s.life = .active ∧ s.acceptsCommand (stepInstr d imm) ∧ imm.toInt < 1
  | .start d imm => s.life = .active ∧ s.acceptsCommand (stepInstr d imm) ∧ 1 ≤ imm.toInt
  | .hold on => s.life = .active ∧ s.acceptsCommand (holdInstr on)
  | .setpd imm => s.life = .active ∧ s.acceptsCommand (.setpd imm)
  | .getpd => s.life = .active ∧ s.acceptsCommand .getpd
  | .release => s.life = .active ∧ s.acceptsCommand .release

/-! ## The event of a command and of a state -/

/-- A step command in ACTIVE warns or starts, by its count (R90, R81). -/
def stepEvent (d : Direction) (imm : Word) : Event :=
  if countBelowOne imm then .countWarning d imm else .start d imm

/-- The event of a command that the lifecycle allows. -/
def allowedEvent : Instr → Event
  | .create1 imm => .create false imm
  | .create2 imm => .create true imm
  | .stepf imm => stepEvent .forward imm
  | .stepb imm => stepEvent .backward imm
  | .holdon => .hold true
  | .holdoff => .hold false
  | .setpd imm => .setpd imm
  | .getpd => .getpd
  | .release => .release

/-- The event of an accepted command: the lifecycle check comes first (R61). -/
def commandEvent (life : Life) (i : Instr) : Event :=
  match lifeViolation (isCreate i) life with
  | some code => .violation code
  | none => allowedEvent i

/-- The event of the edge that ends this cycle, in the priority of R130. -/
def State.event (s : State) : Event :=
  if s.input.rst then .reset
  else if s.ctrl = .pulse then
    if s.timer ≠ 0 then .dwell else if s.stepsLeft ≠ 0 then .nextRepetition else .completion
  else if s.input.cmdValid then
    match decode s.input.cmd with
    | .command i => commandEvent s.life i
    | .rejected _ => .reserved
  else .quiet

/-! ## Decoding and the lifecycle check -/

/-- The decoder rejects exactly the reserved opcodes (R59). -/
theorem decode_rejected_iff (w : CmdWord) :
    (∃ e, decode w = .rejected e) ↔ (opField w).toNat = 0 ∨ 10 ≤ (opField w).toNat := by
  rw [← cmdWord_fields w, decode_cmdWord, opField_cmdWord]
  generalize opField w = op
  split_ifs with h1 h2 h3 h4 h5 h6 h7 h8 h9
  case neg =>
    refine iff_of_true ⟨_, rfl⟩ ?_
    bv_omega
  all_goals subst op; simp

theorem acceptsReserved_iff_rejected (s : State) :
    s.acceptsReserved ↔ s.accepts ∧ ∃ e, decode s.input.cmd = .rejected e := by
  rw [decode_rejected_iff]; rfl

/-- A cycle presents at most one command. -/
theorem acceptsCommand_unique {s : State} {i j : Instr} (hi : s.acceptsCommand i) (hj : s.acceptsCommand j) : i = j :=
  Decoded.command.inj (hi.2.symm.trans hj.2)

theorem lifeViolation_none_iff (c : Bool) (l : Life) :
    lifeViolation c l = none ↔ l = if c then .unbound else .active := by
  cases c <;> cases l <;> decide

/-- R123's table read by lifecycle state: which commands are forbidden. -/
theorem lifeViolation_some_iff (c : Bool) (l : Life) :
    (∃ code, lifeViolation c l = some code) ↔
      l = .released ∨ (l = .active ∧ c = true) ∨ (l = .unbound ∧ c = false) := by
  cases c <;> cases l <;> simp [lifeViolation]

/-! ## A step is the effect of its event -/

theorem stepEvent_effect (d : Direction) (imm : Word) : (stepEvent d imm).effect = stepCommand d imm := by
  funext s
  unfold stepEvent stepCommand
  split <;> rfl

/-- Every command is its allowed event behind the lifecycle check. -/
theorem exec_eq_checked (i : Instr) (s : State) : exec i s = checked (isCreate i) (allowedEvent i).effect s := by
  cases i with
  | stepf imm => rw [allowedEvent, stepEvent_effect]; rfl
  | stepb imm => rw [allowedEvent, stepEvent_effect]; rfl
  | _ => rfl

theorem stepEvent_guard {s : State} {d : Direction} {imm : Word} (hl : s.life = .active)
    (hi : s.acceptsCommand (stepInstr d imm)) : (stepEvent d imm).guard s := by
  unfold stepEvent
  split
  case isTrue h => exact ⟨hl, hi, (countBelowOne_iff imm).1 h⟩
  case isFalse h => exact ⟨hl, hi, not_lt.1 fun h' => h ((countBelowOne_iff imm).2 h')⟩

theorem allowedEvent_guard {s : State} {i : Instr} (hi : s.acceptsCommand i)
    (hl : lifeViolation (isCreate i) s.life = none) : (allowedEvent i).guard s := by
  rw [lifeViolation_none_iff] at hl
  cases i with
  | stepf imm => exact stepEvent_guard hl hi
  | stepb imm => exact stepEvent_guard hl hi
  | _ => exact ⟨hl, hi⟩

/-- The inversion of `step` by events: some event's condition holds, and its effect is the next state. -/
theorem step_event {s t : State} (h : step s = .next t) : ∃ e : Event, e.guard s ∧ t = (e.effect s).nextCycle := by
  rcases step_cases h with ⟨hr, rfl⟩ | ⟨hr, hc, rfl⟩ | ⟨hr, hc, hv, rfl⟩ | ⟨ha, ⟨op, hop⟩, rfl⟩ |
    ⟨i, u, hi, hu, rfl⟩
  · exact ⟨.reset, hr, rfl⟩
  · rcases pulseEdge_cases s with ⟨ht, hp⟩ | ⟨ht, hs, hp⟩ | ⟨ht, hs, hp⟩ <;> rw [hp]
    · exact ⟨.dwell, ⟨hr, hc, ht⟩, rfl⟩
    · exact ⟨.nextRepetition, ⟨hr, hc, ht, hs⟩, rfl⟩
    · exact ⟨.completion, ⟨hr, hc, ht, hs⟩, rfl⟩
  · exact ⟨.quiet, ⟨hr, hc, hv⟩, rfl⟩
  · exact ⟨.reserved, (acceptsReserved_iff_rejected s).2 ⟨ha, _, hop⟩, rfl⟩
  · rw [exec_eq_checked] at hu
    rcases checked_cases hu with ⟨hl, rfl⟩ | ⟨code, hl, rfl⟩
    · exact ⟨allowedEvent i, allowedEvent_guard hi hl, rfl⟩
    · exact ⟨.violation code, ⟨i, hi, hl⟩, rfl⟩

/-- An accepted word always has an effect, reserved or not (R61). -/
theorem acceptWord_next (s : State) : ∃ t, acceptWord s = .next t := by
  unfold acceptWord
  split
  · exact exec_next _ s
  · exact ⟨_, rfl⟩

theorem idleEdge_next (s : State) : ∃ t, idleEdge s = .next t := by
  unfold idleEdge
  split
  · exact acceptWord_next s
  · exact ⟨_, rfl⟩

/-- No edge stops the machine (R125, R147). -/
theorem step_next (s : State) : ∃ t, step s = .next t := by
  have hedge : ∃ t, edge s = .next t := by
    unfold edge
    split
    · exact ⟨_, rfl⟩
    · split
      · exact ⟨_, rfl⟩
      · exact idleEdge_next s
  obtain ⟨t, ht⟩ := hedge
  exact ⟨t.nextCycle, by rw [step, clockEdge, ht]; rfl⟩

/-! ## The event is the one whose condition holds -/

theorem event_of_acceptsCommand {s : State} {i : Instr} (h : s.acceptsCommand i) :
    s.event = commandEvent s.life i := by
  obtain ⟨⟨hr, hv, hc⟩, hd⟩ := h
  simp [State.event, hr, hv, hc, hd]

theorem event_of_allowed {s : State} {i : Instr} (h : s.acceptsCommand i)
    (hl : s.life = if isCreate i then .unbound else .active) : s.event = allowedEvent i := by
  rw [event_of_acceptsCommand h, commandEvent, (lifeViolation_none_iff _ _).2 hl]

theorem event_of_stepInstr {s : State} {d : Direction} {imm : Word} (h : s.acceptsCommand (stepInstr d imm))
    (hl : s.life = .active) : s.event = stepEvent d imm := by
  cases d <;> exact event_of_allowed h hl

theorem event_of_pulse {s : State} (hr : s.input.rst = false) (hc : s.ctrl = .pulse) :
    s.event = if s.timer ≠ 0 then .dwell else if s.stepsLeft ≠ 0 then .nextRepetition else .completion := by
  simp only [State.event, hr, hc, if_true, if_false, Bool.false_eq_true]

theorem event_of_guard {s : State} {e : Event} (h : e.guard s) : s.event = e := by
  cases e with
  | reset => exact if_pos h
  | dwell => obtain ⟨hr, hc, ht⟩ := h; rw [event_of_pulse hr hc, if_pos ht]
  | nextRepetition =>
    obtain ⟨hr, hc, ht, hs⟩ := h
    rw [event_of_pulse hr hc, if_neg (not_not_intro ht), if_pos hs]
  | completion =>
    obtain ⟨hr, hc, ht, hs⟩ := h
    rw [event_of_pulse hr hc, if_neg (not_not_intro ht), if_neg (not_not_intro hs)]
  | quiet => obtain ⟨hr, hc, hv⟩ := h; simp [State.event, hr, hc, hv]
  | reserved =>
    obtain ⟨⟨hr, hv, hc⟩, e, he⟩ := (acceptsReserved_iff_rejected s).1 h
    simp [State.event, hr, hv, hc, he]
  | violation code =>
    obtain ⟨i, hi, hl⟩ := h
    rw [event_of_acceptsCommand hi, commandEvent, hl]
  | create m imm => obtain ⟨hl, hi⟩ := h; cases m <;> exact event_of_allowed hi hl
  | countWarning d imm =>
    obtain ⟨hl, hi, hn⟩ := h
    rw [event_of_stepInstr hi hl]
    exact if_pos ((countBelowOne_iff imm).2 hn)
  | start d imm =>
    obtain ⟨hl, hi, hn⟩ := h
    rw [event_of_stepInstr hi hl]
    exact if_neg fun h' => not_lt.2 hn ((countBelowOne_iff imm).1 h')
  | hold on => obtain ⟨hl, hi⟩ := h; cases on <;> exact event_of_allowed hi hl
  | setpd imm => obtain ⟨hl, hi⟩ := h; exact event_of_allowed hi hl
  | getpd => obtain ⟨hl, hi⟩ := h; exact event_of_allowed hi hl
  | release => obtain ⟨hl, hi⟩ := h; exact event_of_allowed hi hl

theorem event_guard (s : State) : s.event.guard s := by
  obtain ⟨t, ht⟩ := step_next s
  obtain ⟨e, he, -⟩ := step_event ht
  rwa [event_of_guard he]

/-- The conditions of the events exclude each other, and one of them always holds. -/
theorem event_eq_iff {s : State} {e : Event} : s.event = e ↔ e.guard s :=
  ⟨fun h => h ▸ event_guard s, event_of_guard⟩

/-- One step is the effect of the state's event. -/
theorem step_eq_effect (s : State) : step s = .next (s.event.effect s).nextCycle := by
  obtain ⟨t, ht⟩ := step_next s
  obtain ⟨e, he, rfl⟩ := step_event ht
  rw [ht, event_of_guard he]

theorem eq_effect_of_step {s t : State} (h : step s = .next t) : t = (s.event.effect s).nextCycle := by
  rw [step_eq_effect] at h
  exact (Host.Outcome.next.inj h).symm

end Sys2Proof.Machine
end

section
/-! SUPPORT. The invariants of R33: they hold at reset, and every event keeps them. -/

namespace Sys2Proof.Machine

open Sys2Proof

/-! ## Writes to registers that no clause reads -/

/-- The invariants speak of the registers, not of the ports. -/
theorem Invariants.withInputs {s : State} (h : Invariants s) (ports : List Input) :
    Invariants { s with inputs := ports } := { h with }

/-- The codes 0x8 to 0xF are never produced (R120). -/
theorem reportCode_bits_le (code : ReportCode) : code.bits.toNat ≤ 7 := by cases code <;> decide

theorem Invariants.report {s : State} (h : Invariants s) (code : ReportCode) (data : Word) :
    Invariants (s.report code data) := { h with code_known := reportCode_bits_le code }

theorem Invariants.reportFailures {s : State} (h : Invariants s) (code : ReportCode) (failed : PinVec) :
    Invariants (s.reportFailures code failed) := by
  unfold State.reportFailures
  split
  · exact h.report _ _
  · exact h.report _ _

theorem Invariants.noReport {s : State} (h : Invariants s) : Invariants s.noReport := { h with }

theorem Invariants.setWarn {s : State} (h : Invariants s) : Invariants s.setWarn := { h with }

theorem Invariants.takeFault {s : State} (h : Invariants s) (bit : FaultBit) (code : ReportCode) :
    Invariants (takeFault bit code s) := by
  have hset : Invariants (s.setFault bit) := by cases bit <;> exact { h with }
  exact hset.report _ _

/-! ## Reset -/

theorem invariants_reset : Invariants State.reset := by constructor <;> decide

/-! ## The pulse FSM -/

theorem Invariants.dwell {s : State} (h : Invariants s) (hc : s.ctrl = .pulse) (ht : s.timer ≠ 0) :
    Invariants (dwell s) :=
  { h with
    idle_counters := fun hi => nomatch hc.symm.trans hi
    timer_bound := fun _ => by
      have hle := h.timer_bound hc
      have hlt : (s.timer - 1).toNat ≤ s.timer.toNat := by bv_omega
      exact hlt.trans hle }

theorem Invariants.nextRepetition {s : State} (h : Invariants s) (hc : s.ctrl = .pulse) (hs : s.stepsLeft ≠ 0) :
    Invariants (nextRepetition s) :=
  { h with
    unbound_clear := fun hu => nomatch (h.pulse_active hc).1.symm.trans hu
    idle_counters := fun hi => nomatch hc.symm.trans hi
    stepsLeft_bound := by
      have hle := h.stepsLeft_bound
      have hlt : (s.stepsLeft - 1).toNat ≤ s.stepsLeft.toNat := by bv_omega
      exact hlt.trans hle
    timer_bound := fun _ => le_rfl }

/-- At completion the enable level falls back to hold mode (R33(b)), and the counters have run out (R33(g)). -/
theorem Invariants.completeStep {s : State} (h : Invariants s) (hs : s.completesStep) :
    Invariants (completeStep s) := by
  obtain ⟨-, hc, ht, hn⟩ := hs
  obtain ⟨hlife, hen⟩ := h.pulse_active hc
  refine Invariants.report (s := { s with ctrl := .idle, enLvl := if s.holdEnabled then s.enLvl else false }) ?_ _ _
  exact
    { h with
      pulse_active := fun hp => nomatch hp
      idle_enable := fun _ _ => by
        show (if s.holdEnabled then s.enLvl else false) = s.holdEnabled
        rw [hen]; cases s.holdEnabled <;> rfl
      unbound_clear := fun hu => nomatch hlife.symm.trans hu
      idle_counters := fun _ => ⟨ht, hn⟩
      timer_bound := fun hp => nomatch hp }

/-! ## The commands -/

theorem Invariants.create {s : State} (h : Invariants s) (hc : s.ctrl = .idle) (hl : s.life = .unbound) (m : Bool)
    (imm : Word) : Invariants (create m imm s) := by
  obtain ⟨-, -, hrel, -, -, -⟩ := h.unbound_clear hl
  refine Invariants.reportFailures ?_ _ _
  exact
    { h with
      pulse_active := fun hp => nomatch hc.symm.trans hp
      idle_enable := fun _ _ => rfl
      unbound_clear := fun hu => nomatch hu
      released_unowned := fun hr => nomatch hr
      owned_not_failed := by ext i; simp; tauto
      en1_two := by cases m <;> simp [attempted]
      relFail_owned := by simp [hrel]
      relFail_released := fun _ => hrel
      active_attempted := fun _ => by
        show (attempted m &&& s.input.acqOk) ||| (attempted m &&& ~~~s.input.acqOk) = attempted m
        rw [← BitVec.and_or_distrib_left, BitVec.or_not_self, BitVec.and_allOnes]
      timer_bound := fun hp => nomatch hc.symm.trans hp }

/-- The count's `imm - 1` does not borrow, so `steps_left` is at most 2^31 - 2 (R21). -/
theorem repetitionsAfterFirst_bound {imm : Word} (h : 1 ≤ imm.toInt) :
    (repetitionsAfterFirst imm).toNat ≤ 2 ^ 31 - 2 := by
  unfold repetitionsAfterFirst
  rw [BitVec.toInt_eq_toNat_cond] at h
  bv_omega

theorem Invariants.stepStart {s : State} (h : Invariants s) (hl : s.life = .active) (d : Direction) {imm : Word}
    (hn : 1 ≤ imm.toInt) : Invariants (stepStart d imm s) :=
  { h with
    pulse_active := fun _ => ⟨hl, rfl⟩
    idle_enable := fun hi => nomatch hi
    unbound_clear := fun hu => nomatch hl.symm.trans hu
    idle_counters := fun hi => nomatch hi
    stepsLeft_bound := repetitionsAfterFirst_bound hn
    timer_bound := fun _ => le_rfl }

theorem Invariants.setHold {s : State} (h : Invariants s) (hc : s.ctrl = .idle) (hl : s.life = .active) (on : Bool) :
    Invariants (setHold on s) := by
  refine Invariants.report (s := { s with holdEnabled := on, enLvl := on }) ?_ _ _
  exact
    { h with
      pulse_active := fun hp => nomatch hc.symm.trans hp
      idle_enable := fun _ _ => rfl
      unbound_clear := fun hu => nomatch hl.symm.trans hu }

theorem Invariants.setPulse {s : State} (h : Invariants s) (hc : s.ctrl = .idle) (imm : Word) :
    Invariants (setPulse imm s) := by
  refine Invariants.report (s := { s with pulseDuration := durationOperand imm }) ?_ _ _
  exact { h with timer_bound := fun hp => nomatch hc.symm.trans hp }

/-- A pin whose release failed was owned, so its acquisition had not failed (R33(e), R33(f)). -/
theorem Invariants.releasePins {s : State} (h : Invariants s) (hc : s.ctrl = .idle) : Invariants (releasePins s) := by
  refine Invariants.reportFailures ?_ _ _
  exact
    { h with
      pulse_active := fun hp => nomatch hc.symm.trans hp
      idle_enable := fun _ ha => nomatch ha
      unbound_clear := fun hu => nomatch hu
      released_unowned := fun _ => rfl
      owned_not_failed := BitVec.zero_and
      en1_two := fun hb => by simp at hb
      relFail_owned := by
        show (s.pinOwn &&& ~~~s.input.relOk) &&& s.acqFail = 0
        rw [BitVec.and_assoc, BitVec.and_comm (~~~s.input.relOk), ← BitVec.and_assoc, h.owned_not_failed]
        exact BitVec.zero_and
      relFail_released := fun hr => absurd rfl hr
      active_attempted := fun ha => nomatch ha }

/-! ## Every event, every step, every run -/

theorem Invariants.effect {s : State} (h : Invariants s) {e : Event} (he : e.guard s) : Invariants (e.effect s) := by
  cases e with
  | reset => exact invariants_reset.withInputs _
  | dwell => obtain ⟨-, hc, ht⟩ := he; exact h.dwell hc ht
  | nextRepetition => obtain ⟨-, hc, -, hs⟩ := he; exact h.nextRepetition hc hs
  | completion => exact h.completeStep he
  | quiet => exact h.noReport
  | reserved => exact h.takeFault _ _
  | violation code => exact h.takeFault _ _
  | create m imm => obtain ⟨hl, ⟨-, -, hc⟩, -⟩ := he; exact h.create hc hl m imm
  | countWarning d imm => exact h.setWarn.report _ _
  | start d imm => obtain ⟨hl, -, hn⟩ := he; exact h.stepStart hl d hn
  | hold on => obtain ⟨hl, ⟨-, -, hc⟩, -⟩ := he; exact h.setHold hc hl on
  | setpd imm => obtain ⟨-, ⟨-, -, hc⟩, -⟩ := he; exact h.setPulse hc imm
  | getpd => exact h.report _ _
  | release => obtain ⟨-, ⟨-, -, hc⟩, -⟩ := he; exact h.releasePins hc

/-- What every step keeps, every run keeps. -/
theorem run_keeps {P : State → Prop} (hstep : ∀ s t, P s → step s = .next t → P t) :
    ∀ (k : Nat) {s t : State}, P s → run k s = .next t → P t
  | 0, s, t, hs, h => by
    rw [run_zero] at h
    exact Host.Outcome.next.inj h ▸ hs
  | k + 1, s, t, hs, h => by
    rw [run_succ (step_eq_effect s)] at h
    exact run_keeps hstep k (hstep s _ hs (step_eq_effect s)) h

/-- Settles O49: some event happens, and each event keeps the invariants. -/
theorem stepKeepsInvariants : Obligations.StepKeepsInvariants := by
  intro s t h hst
  obtain ⟨e, he, rfl⟩ := step_event hst
  exact (h.effect he).withInputs _

/-- Settles O50. -/
theorem resetMeetsInvariants : Obligations.ResetMeetsInvariants := invariants_reset

/-- Settles O51, by induction on the number of edges. -/
theorem reachableStatesMeetInvariants : Obligations.ReachableStatesMeetInvariants := by
  intro ports k t h
  exact run_keeps stepKeepsInvariants k (invariants_reset.withInputs ports) h

end Sys2Proof.Machine
end

section
/-! SUPPORT. The predicates of Safety.lean read as events, what each event writes, and the rules over every step that
follow from the two. -/

namespace Sys2Proof.Machine

open Sys2Proof

/-! ## The predicates of Safety.lean, by event -/

theorem rst_iff (s : State) : s.input.rst = true ↔ s.event = .reset :=
  (event_eq_iff (e := .reset)).symm

theorem event_ne_reset {s : State} (hr : s.input.rst = false) : s.event ≠ .reset := by
  rw [Ne, ← rst_iff, hr]
  exact Bool.false_ne_true

theorem startsNextRepetition_iff (s : State) : s.startsNextRepetition ↔ s.event = .nextRepetition :=
  (event_eq_iff (e := .nextRepetition)).symm

theorem completesStep_iff (s : State) : s.completesStep ↔ s.event = .completion :=
  (event_eq_iff (e := .completion)).symm

theorem acceptsReserved_iff (s : State) : s.acceptsReserved ↔ s.event = .reserved :=
  (event_eq_iff (e := .reserved)).symm

theorem releases_iff (s : State) : s.releases ↔ s.event = .release :=
  (event_eq_iff (e := .release)).symm

theorem startsStep_iff (s : State) : s.startsStep ↔ ∃ d imm, s.event = .start d imm := by
  simp only [event_eq_iff, Event.guard, State.startsStep, exists_and_left]

/-- A step command with a count below 1 in ACTIVE (R90). -/
theorem warns_iff (s : State) :
    (s.life = .active ∧ ∃ d imm, s.acceptsCommand (stepInstr d imm) ∧ imm.toInt < 1) ↔
      ∃ d imm, s.event = .countWarning d imm := by
  simp only [event_eq_iff, Event.guard, exists_and_left]

theorem creates_iff (s : State) : s.creates ↔ ∃ m imm, s.event = .create m imm := by
  simp only [event_eq_iff, Event.guard, State.creates, exists_and_left, Bool.exists_bool, createInstr, exists_or]

theorem isCreate_eq_true_iff (i : Instr) : isCreate i = true ↔ ∃ imm, i = .create1 imm ∨ i = .create2 imm := by
  cases i <;> simp [isCreate]

theorem violatesLife_iff (s : State) : s.violatesLife ↔ ∃ code, s.event = .violation code := by
  have hnot (i : Instr) : isCreate i = false ↔ ∀ imm, i ≠ .create1 imm ∧ i ≠ .create2 imm := by
    rw [← Bool.not_eq_true, isCreate_eq_true_iff]
    push Not
    rfl
  simp only [event_eq_iff, Event.guard, State.violatesLife, ← isCreate_eq_true_iff, ← hnot,
    ← lifeViolation_some_iff]
  exact ⟨fun ⟨i, hi, code, hc⟩ => ⟨code, i, hi, hc⟩, fun ⟨code, i, hi, hc⟩ => ⟨i, hi, code, hc⟩⟩

/-- The events of an accepted word. -/
def Event.ofWord : Event → Bool
  | .reset | .dwell | .nextRepetition | .completion | .quiet => false
  | _ => true

/-- An edge accepts a word exactly when it does nothing else (R60). -/
theorem accepts_iff (s : State) : s.accepts ↔ s.event.ofWord = true := by
  have hg := event_guard s
  cases he : s.event <;> rw [he] at hg
  case reset => simp [State.accepts, Event.ofWord, show s.input.rst = true from hg]
  case dwell | nextRepetition | completion => simp [State.accepts, Event.ofWord, hg.2.1]
  case quiet => simp [State.accepts, Event.ofWord, hg.2.2]
  case reserved => exact iff_of_true hg.1 rfl
  case violation => obtain ⟨i, hi, -⟩ := hg; exact iff_of_true hi.1 rfl
  case countWarning | start => obtain ⟨-, hi, -⟩ := hg; exact iff_of_true hi.1 rfl
  all_goals exact iff_of_true hg.2.1 rfl

/-! ## What each event writes -/

section
variable (s : State)

@[simp] theorem effect_reset : Event.reset.effect s = { State.reset with inputs := s.inputs } := rfl

@[simp] theorem effect_dwell : Event.dwell.effect s = { s with rspValid := false, timer := s.timer - 1 } := rfl

@[simp] theorem effect_nextRepetition :
    Event.nextRepetition.effect s =
      { s with
        rspValid := false, phaseState := nextPhase s.phaseState s.direction, stepsLeft := s.stepsLeft - 1
        timer := s.pulseDuration } := rfl

@[simp] theorem effect_completion :
    Event.completion.effect s =
      { s with
        ctrl := .idle, enLvl := if s.holdEnabled then s.enLvl else false, rspValid := true, rspCode := 0
        rspData := 0 } := rfl

@[simp] theorem effect_quiet : Event.quiet.effect s = { s with rspValid := false } := rfl

@[simp] theorem effect_reserved :
    Event.reserved.effect s = { s with eIllegal := true, rspValid := true, rspCode := 4, rspData := 0 } :=
  reservedOpcode_eq s

@[simp] theorem effect_violation (code : ReportCode) :
    (Event.violation code).effect s =
      { s with eLife := true, rspValid := true, rspCode := code.bits, rspData := 0 } := takeFault_life code s

@[simp] theorem effect_create (m : Bool) (imm : Word) :
    (Event.create m imm).effect s =
      { s with
        pinOwn := attempted m &&& s.input.acqOk, acqFail := attempted m &&& ~~~s.input.acqOk, twoEn := m
        phaseState := 0, direction := .forward, holdEnabled := false, enLvl := false, pulseDuration := imm
        life := .active, rspValid := true
        rspCode := if attempted m &&& ~~~s.input.acqOk ≠ 0 then ReportCode.eAcq.bits else ReportCode.ok.bits
        rspData := if attempted m &&& ~~~s.input.acqOk ≠ 0 then zext32 (attempted m &&& ~~~s.input.acqOk) else 0 } :=
  create_eq m imm s

@[simp] theorem effect_countWarning (d : Direction) (imm : Word) :
    (Event.countWarning d imm).effect s = { s with warn := true, rspValid := true, rspCode := 1, rspData := 0 } := rfl

@[simp] theorem effect_start (d : Direction) (imm : Word) :
    (Event.start d imm).effect s =
      { s with
        rspValid := false, direction := d, phaseState := nextPhase s.phaseState d, enLvl := true
        timer := s.pulseDuration, stepsLeft := imm - 1, ctrl := .pulse } := rfl

@[simp] theorem effect_hold (on : Bool) :
    (Event.hold on).effect s =
      { s with holdEnabled := on, enLvl := on, rspValid := true, rspCode := 0, rspData := 0 } := rfl

@[simp] theorem effect_setpd (imm : Word) :
    (Event.setpd imm).effect s = { s with pulseDuration := imm, rspValid := true, rspCode := 0, rspData := 0 } := rfl

@[simp] theorem effect_getpd :
    Event.getpd.effect s = { s with rspValid := true, rspCode := 0, rspData := s.pulseDuration } := rfl

@[simp] theorem effect_release :
    Event.release.effect s =
      { s with
        relFail := s.pinOwn &&& ~~~s.input.relOk, pinOwn := 0, life := .released, rspValid := true
        rspCode := if s.pinOwn &&& ~~~s.input.relOk ≠ 0 then ReportCode.eRel.bits else ReportCode.ok.bits
        rspData := if s.pinOwn &&& ~~~s.input.relOk ≠ 0 then zext32 (s.pinOwn &&& ~~~s.input.relOk) else 0 } :=
  releasePins_eq s

end

/-! ## The rules over every step -/

/-- Settles O38: only a repetition's start, a create command and reset write the phase state. -/
theorem phaseMovesOnlyByOne : Obligations.PhaseMovesOnlyByOne := by
  intro s t h
  rw [eq_effect_of_step h, startsStep_iff, startsNextRepetition_iff, creates_iff, ← Bool.not_eq_true, rst_iff]
  cases s.event with
  | nextRepetition => simp [nextPhase_eq]
  | start d imm => simp [nextPhase_eq]
  | reset => simp [State.reset]
  | _ => simp

/-- Settles O39: only a create command, RELEASE and reset write `life`. -/
theorem lifeTransitions : Obligations.LifeTransitions := by
  intro s t h
  rw [eq_effect_of_step h, creates_iff, releases_iff, ← Bool.not_eq_true, rst_iff]
  cases s.event with
  | reset => simp [State.reset]
  | _ => simp

/-- Settles O41: each sticky bit has one event that sets it, and only reset clears it. -/
theorem stickyBits : Obligations.StickyBits := by
  intro s t hr h
  rw [eq_effect_of_step h, warns_iff, acceptsReserved_iff, violatesLife_iff]
  cases he : s.event with
  | reset => exact absurd he (event_ne_reset hr)
  | _ => simp

/-- Settles O42: `acq_fail` is written in UNBOUND alone and `rel_fail` in ACTIVE alone, where the invariants say that
the record is still empty. -/
theorem failureRecordsKept : Obligations.FailureRecordsKept := by
  intro s t hinv hr h
  have hg := event_guard s
  rw [eq_effect_of_step h]
  cases he : s.event <;> rw [he] at hg
  case reset => exact absurd he (event_ne_reset hr)
  case create m imm =>
    obtain ⟨-, hacq, -⟩ := hinv.unbound_clear hg.1
    simp [hacq, hg.1]
  case release =>
    have hrel := hinv.relFail_released (by simp [hg.1])
    simp [hrel, hg.1]
  all_goals simp

/-- Settles O43: a create command, the only event that writes `two_en` or sets a bit of `pin_own`, needs UNBOUND. -/
theorem configurationFixed : Obligations.ConfigurationFixed := by
  intro s t hl hr h
  have hg := event_guard s
  rw [eq_effect_of_step h]
  cases he : s.event <;> rw [he] at hg
  case reset => exact absurd he (event_ne_reset hr)
  case create m imm => exact absurd hg.1 hl
  all_goals simp [hl]

/-- Settles O44: every event of an accepted word but a step command's start reports, and so does a completion. -/
theorem responseRule : Obligations.ResponseRule := by
  intro s t hr h
  rw [eq_effect_of_step h, accepts_iff, startsStep_iff, completesStep_iff]
  cases he : s.event with
  | reset => exact absurd he (event_ne_reset hr)
  | _ => simp [Event.ofWord]

/-- Settles O40, event by event: a register that the event leaves alone asks nothing, and for the others the event's
condition names the writer. -/
theorem writtenByColumn : Obligations.WrittenByColumn := by
  intro s t hr h
  have hg := event_guard s
  rw [eq_effect_of_step h]
  cases he : s.event <;> rw [he] at hg
  case reset => exact absurd he (event_ne_reset hr)
  case dwell | nextRepetition | completion =>
    have hc : s.ctrl = .pulse := hg.2.1
    simp [hc]
  case create m imm =>
    have hc : s.creates := (creates_iff s).2 ⟨m, imm, he⟩
    simp [hc]
  case start d imm =>
    have hs : s.startsStep := (startsStep_iff s).2 ⟨d, imm, he⟩
    simp [hs]
  case countWarning d imm =>
    have hw : ∃ d imm, s.acceptsCommand (stepInstr d imm) := ⟨d, imm, hg.2.1⟩
    simp [hw]
  case hold on =>
    cases on with
    | false => simp [show s.acceptsCommand .holdoff from hg.2]
    | true => simp [show s.acceptsCommand .holdon from hg.2]
  case setpd imm =>
    have hp : ∃ imm, s.acceptsCommand (.setpd imm) := ⟨imm, hg.2⟩
    simp [hp]
  case release =>
    have hs : s.releases := hg
    simp [hs]
  case reserved =>
    have hs : s.acceptsReserved := hg
    simp [hs]
  case violation code =>
    have hv : s.violatesLife := (violatesLife_iff s).2 ⟨code, he⟩
    simp [hv]
  case quiet | getpd => simp

/-! ## The collaborator's answers -/

/-- Two answers that agree on the pins asked for fail on the same pins. -/
theorem and_not_eq_of_and_eq {x a b : PinVec} (h : x &&& a = x &&& b) : x &&& ~~~a = x &&& ~~~b := by
  have hmask (c : PinVec) : x &&& ~~~c = x &&& ~~~(x &&& c) := by
    rw [BitVec.not_and, BitVec.and_or_distrib_left, BitVec.and_not_self]
    exact BitVec.zero_or.symm
  rw [hmask a, h, ← hmask b]

/-- The answers reach the state only through `create`, at the attempted pins, and `releasePins`, at the owned ones. -/
theorem step_answers_congr (s : State) (a : Input) (rest : List Input) (acq rel : PinVec)
    (hacq : ∀ m imm, State.event { s with inputs := a :: rest } = .create m imm →
      attempted m &&& acq = attempted m &&& a.acqOk)
    (hrel : State.event { s with inputs := a :: rest } = .release → s.pinOwn &&& rel = s.pinOwn &&& a.relOk) :
    step { s with inputs := { a with acqOk := acq, relOk := rel } :: rest } = step { s with inputs := a :: rest } := by
  have hev : State.event { s with inputs := { a with acqOk := acq, relOk := rel } :: rest } =
      State.event { s with inputs := a :: rest } := rfl
  rw [step_eq_effect, step_eq_effect, hev]
  cases he : State.event { s with inputs := a :: rest } with
  | create m imm =>
    have hown := hacq m imm he
    have hfail := and_not_eq_of_and_eq hown
    simp [State.input, State.nextCycle, hown, hfail]
  | release =>
    have hfail := and_not_eq_of_and_eq (hrel he)
    simp [State.input, State.nextCycle, hfail]
  | _ => rfl

/-- Settles O46: where no create command or no RELEASE takes effect, and at the pins not asked for, nothing reads
the answers. -/
theorem answersReadOnlyWhereSaid : Obligations.AnswersReadOnlyWhereSaid := by
  intro s a rest v
  refine ⟨fun hn => ?_, fun hn => ?_, fun imm hd hv => ?_, fun hv => ?_⟩
  · rw [creates_iff] at hn
    exact step_answers_congr s a rest v a.relOk (fun m imm he => absurd ⟨m, imm, he⟩ hn) fun _ => rfl
  · rw [releases_iff] at hn
    exact step_answers_congr s a rest a.acqOk v (fun _ _ _ => rfl) fun he => absurd he hn
  · refine step_answers_congr s a rest v a.relOk (fun m imm' he => ?_) fun _ => rfl
    obtain ⟨-, hacc, hd'⟩ := event_eq_iff.1 he
    cases m with
    | false => exact (BitVec.and_comm _ _).trans (hv.trans (BitVec.and_comm _ _))
    | true => exact nomatch hd.symm.trans hd'
  · refine step_answers_congr s a rest a.acqOk v (fun _ _ _ => rfl) fun _ => ?_
    rw [BitVec.and_comm, hv, BitVec.and_comm]

/-! ## The output ports -/

/-- A one-bit register drives its port as 0 or 1 (R10). -/
theorem ofBool_eq_ite (b : Bool) : BitVec.ofBool b = if b then 1 else 0 := by cases b <;> rfl

/-- The fields of `pin_lvl` (R28): the row below, the enable level on both enable bits. -/
theorem pinLvl_fields (s : State) :
    s.pinLvl.extractLsb' 0 4 = commutation s.phaseState ∧ s.pinLvl.getLsbD 4 = s.enLvl ∧
      s.pinLvl.getLsbD 5 = s.enLvl := by
  unfold State.pinLvl
  generalize s.enLvl = en
  generalize commutation s.phaseState = row
  revert en row
  decide

/-- Settles O52: only the packed `pin_lvl` and the registers that are no numbers need a look at their values. -/
theorem outputPorts : Obligations.OutputPorts := by
  intro s ports
  obtain ⟨hrow, hen0, hen1⟩ := pinLvl_fields s
  refine ⟨rfl, decide_eq_true_iff, decide_eq_true_iff, rfl, hrow, hen0, hen1, ofBool_eq_ite _, rfl, rfl, ?life,
    ofBool_eq_ite _, rfl, ?direction, ofBool_eq_ite _, rfl, ofBool_eq_ite _, rfl, rfl, ofBool_eq_ite _,
    ofBool_eq_ite _, ofBool_eq_ite _⟩
  case life => cases hl : s.life <;> simp [State.outputs, hl, Life.bits]
  case direction => cases hd : s.direction <;> simp [State.outputs, hd, Direction.bits]

end Sys2Proof.Machine
end

section
/-! SUPPORT. A word presented to the next edge, the level of each pin, and the commutation table (20_memory.md). -/

namespace Sys2Proof.Machine

open Sys2Proof

/-! ## A word presented to the next edge -/

/-- An accepted command's meaning is what the edge does, the lifecycle check included (R60, R61). -/
theorem step_of_acceptsCommand {s : State} {i : Instr} (h : s.acceptsCommand i) :
    step s = mapNext State.nextCycle (exec i s) := by
  rw [step_eq_effect, event_of_acceptsCommand h, exec_eq_checked, commandEvent, checked]
  cases lifeViolation (isCreate i) s.life <;> rfl

/-- The word presented is accepted, so a command it decodes to is, too. -/
theorem presentWord_acceptsCommand {w : CmdWord} {i : Instr} (h : decode w = .command i) (s : State) :
    (s.presentWord w).acceptsCommand i :=
  ⟨⟨rfl, rfl, rfl⟩, h⟩

/-- A table row decodes to a command when its value fits the command word and that word does (R55). -/
theorem decodeTableWord_eq_some_iff (nbits w : Nat) (i : Instr) :
    decodeTableWord nbits w = some i ↔
      w % 2 ^ nbits < 2 ^ 36 ∧ decode (BitVec.ofNat 36 (w % 2 ^ nbits)) = .command i := by
  unfold decodeTableWord tableWord
  by_cases hw : w % 2 ^ nbits < 2 ^ 36
  · rw [if_pos hw, and_iff_right hw]
    cases hd : decode (BitVec.ofNat 36 (w % 2 ^ nbits)) <;> simp [hd]
  · rw [if_neg hw, iff_false_right fun h => hw h.1]
    exact (Option.some_ne_none i).symm

/-- Settles O8: the placed word is accepted as the command it decodes to, and it fits the port. -/
theorem placedWordRunsNext : Obligations.PlacedWordRunsNext := by
  intro s nbits w i h
  obtain ⟨hw, hd⟩ := (decodeTableWord_eq_some_iff nbits w i).1 h
  exact ⟨step_of_acceptsCommand (presentWord_acceptsCommand hd s), Nat.mod_eq_of_lt hw⟩

/-! ## The level of a pin -/

/-- A pin is undriven exactly when it is not owned (R42). -/
theorem pinLevel_eq_z_iff (s : State) (p : Pin) : s.pinLevel p = .z ↔ s.pinOwn.getLsbD p.index = false := by
  unfold State.pinLevel State.pinOe
  cases s.pinOwn.getLsbD p.index <;> cases s.pinLvl.getLsbD p.index <;> decide

/-- An owned pin shows its bit of `pin_lvl` (R42). -/
theorem pinLevel_of_owned {s : State} {p : Pin} (h : s.pinOwn.getLsbD p.index = true) :
    s.pinLevel p = if s.pinLvl.getLsbD p.index then .high else .low :=
  if_pos h

theorem pinLevel_eq_z_of_pinOwn_zero {s : State} (h : s.pinOwn = 0) (p : Pin) : s.pinLevel p = .z := by
  rw [pinLevel_eq_z_iff, h]
  exact BitVec.getLsbD_zero

/-- The four low bits of `pin_lvl` are the row at the phase state (R28, R43). -/
theorem pinLvl_getLsbD_row (s : State) {i : Nat} (hi : i < 4) :
    s.pinLvl.getLsbD i = (commutation s.phaseState).getLsbD i := by
  obtain ⟨hrow, -, -⟩ := pinLvl_fields s
  rw [← hrow]
  simp [hi]

/-- An owned phase pin shows its bit of the row at the phase state (R43). -/
theorem pinLevel_phase {s : State} {p : Pin} (hp : p.index < 4) (h : s.pinOwn.getLsbD p.index = true) :
    s.pinLevel p = if (commutation s.phaseState).getLsbD p.index then .high else .low := by
  rw [pinLevel_of_owned h, pinLvl_getLsbD_row s hp]

theorem pinLevel_en0 {s : State} (h : s.pinOwn.getLsbD 4 = true) :
    s.pinLevel .en0 = if s.enLvl then .high else .low := by
  obtain ⟨-, hen0, -⟩ := pinLvl_fields s
  rw [← hen0]
  exact pinLevel_of_owned h

theorem pinLevel_en1 {s : State} (h : s.pinOwn.getLsbD 5 = true) :
    s.pinLevel .en1 = if s.enLvl then .high else .low := by
  obtain ⟨-, -, hen1⟩ := pinLvl_fields s
  rw [← hen1]
  exact pinLevel_of_owned h

/-! ## The commutation table -/

/-- The table by columns: in which phase states each of A, B, C and D is high (R43). -/
theorem commutation_columns (ps : Phase) :
    ((commutation ps).getLsbD 0 = true ↔ ps = 0 ∨ ps = 3) ∧ ((commutation ps).getLsbD 1 = true ↔ ps = 1 ∨ ps = 2) ∧
      ((commutation ps).getLsbD 2 = true ↔ ps = 0 ∨ ps = 1) ∧
      ((commutation ps).getLsbD 3 = true ↔ ps = 2 ∨ ps = 3) := by
  revert ps
  decide

/-- The table as equations on the bits of the phase state (R44(e)). -/
theorem commutation_bits (ps : Phase) :
    (commutation ps).getLsbD 0 = (ps.getLsbD 1 == ps.getLsbD 0) ∧
      (commutation ps).getLsbD 1 = (ps.getLsbD 1 != ps.getLsbD 0) ∧
      (commutation ps).getLsbD 2 = (ps.getLsbD 1 == false) ∧ (commutation ps).getLsbD 3 = (ps.getLsbD 1 == true) := by
  revert ps
  decide

/-- A and B are complementary, and so are C and D (R44(b)). -/
theorem commutation_complementary (ps : Phase) :
    (commutation ps).getLsbD 0 = !(commutation ps).getLsbD 1 ∧
      (commutation ps).getLsbD 2 = !(commutation ps).getLsbD 3 := by
  obtain ⟨ha, hb, hc, hd⟩ := commutation_bits ps
  rw [ha, hb, hc, hd]
  cases ps.getLsbD 0 <;> cases ps.getLsbD 1 <;> exact ⟨rfl, rfl⟩

/-- Each complementary pair has one pin high (R44(a)). -/
theorem commutation_two_high (ps : Phase) :
    ((commutation ps).getLsbD 0).toNat + ((commutation ps).getLsbD 1).toNat + ((commutation ps).getLsbD 2).toNat +
      ((commutation ps).getLsbD 3).toNat = 2 := by
  obtain ⟨hab, hcd⟩ := commutation_complementary ps
  rw [hab, hcd]
  cases (commutation ps).getLsbD 1 <;> cases (commutation ps).getLsbD 3 <;> rfl

/-- The rows are distinct (R44(d)). -/
theorem commutation_injective (ps qs : Phase) (h : commutation ps = commutation qs) : ps = qs := by
  revert ps qs
  decide

/-- Settles O54: (a) follows from (b), and (b) from (e); the rows and their differences (c) are read off. -/
theorem commutationTable : Obligations.CommutationTable :=
  ⟨⟨rfl, rfl, rfl, rfl⟩, commutation_two_high, commutation_complementary, ⟨rfl, rfl, rfl, rfl⟩,
    commutation_injective, commutation_bits⟩

/-! ## The pins of a state -/

/-- Settles O53: a phase pin shows its column of the table, an enable pin the enable level. -/
theorem pinLevels : Obligations.PinLevels := by
  intro s
  obtain ⟨ha, hb, hc, hd⟩ := commutation_columns s.phaseState
  refine ⟨pinLevel_eq_z_iff s, fun h => ?_, fun h => ?_, fun h => ?_, fun h => ?_, pinLevel_en0, pinLevel_en1⟩
  · exact (pinLevel_phase (p := .a) (by decide) h).trans (if_congr ha rfl rfl)
  · exact (pinLevel_phase (p := .b) (by decide) h).trans (if_congr hb rfl rfl)
  · exact (pinLevel_phase (p := .c) (by decide) h).trans (if_congr hc rfl rfl)
  · exact (pinLevel_phase (p := .d) (by decide) h).trans (if_congr hd rfl rfl)

/-- No pin is owned before the create command or after RELEASE (R33(c), R33(d)). -/
theorem Invariants.pinOwn_zero {s : State} (h : Invariants s) (hl : s.life = .unbound ∨ s.life = .released) :
    s.pinOwn = 0 :=
  hl.elim (fun hu => (h.unbound_clear hu).1) h.released_unowned

/-- A reset edge leaves the reset values in every register (R140). -/
theorem step_of_rst {s : State} (h : s.input.rst = true) : step s = .next s.resetRegisters.nextCycle := by
  rw [step_eq_effect, (rst_iff s).1 h]
  rfl

/-- Settles O55: ownership decides what is driven, and both enable pins show the one enable level. -/
theorem undrivenPins : Obligations.UndrivenPins := by
  refine ⟨fun s hinv => ⟨fun hl => ?undriven, fun htwo => ?single, fun h0 h1 => ?lockstep⟩, fun s hr => ?reset⟩
  case undriven => exact pinLevel_eq_z_of_pinOwn_zero (hinv.pinOwn_zero hl)
  case single =>
    rw [pinLevel_eq_z_iff, ← Bool.not_eq_true]
    exact fun hown => Bool.false_ne_true (htwo.symm.trans (hinv.en1_two hown))
  case lockstep =>
    rw [Ne, pinLevel_eq_z_iff, Bool.not_eq_false] at h0 h1
    rw [pinLevel_en0 h0, pinLevel_en1 h1]
  case reset => exact ⟨_, step_of_rst hr, rfl, pinLevel_eq_z_of_pinOwn_zero rfl⟩

end Sys2Proof.Machine
end

section
/-! SUPPORT. The command word read back (30_encoding.md R55 to R65): which words decode to a command, the opcode as match
and mask, and the lines of the assembler. -/

namespace Sys2Proof

open Sys2Proof.Machine (decode_rejected_iff)

/-! ## The words of a command -/

/-- The commands whose `imm` field is read; the other four ignore it (R57, R58). -/
def Instr.takesOperand : Instr → Bool
  | .holdon | .holdoff | .getpd | .release => false
  | _ => true

theorem takesOperand_iff (i : Instr) :
    i.takesOperand = true ↔ i ≠ .holdon ∧ i ≠ .holdoff ∧ i ≠ .getpd ∧ i ≠ .release := by
  cases i <;> simp [Instr.takesOperand]

/-- A word decodes to a command exactly when it has that command's opcode and, where it is read, its operand (R56). -/
theorem decode_eq_command_iff (w : CmdWord) (i : Instr) :
    decode w = .command i ↔ opField w = i.opcode ∧ (i.takesOperand = true → immField w = i.operand) := by
  rw [← cmdWord_fields w, decode_cmdWord, opField_cmdWord, immField_cmdWord]
  generalize opField w = op
  generalize immField w = imm
  constructor
  · intro h
    split_ifs at h <;> cases h
    all_goals exact ⟨by assumption, by simp [Instr.takesOperand, Instr.operand]⟩
  · rintro ⟨rfl, himm⟩
    cases i <;> simp_all [Instr.opcode, Instr.takesOperand, Instr.operand]

/-- The decoder's one reason to reject a word names the word's own opcode (R59). -/
theorem eq_reservedOpcode_of_decode_rejected {w : CmdWord} {e : DecodeError} (h : decode w = .rejected e) :
    e = .reservedOpcode (opField w) := by
  rw [← cmdWord_fields w, decode_cmdWord] at h
  split_ifs at h
  exact (Decoded.rejected.inj h).symm

@[simp] theorem decode_encode (i : Instr) : decode (encode i) = .command i :=
  (decode_eq_command_iff _ i).2 ⟨opField_cmdWord _ _, fun _ => immField_cmdWord _ _⟩

/-- The mask keeps the opcode and clears the operand (R56). -/
theorem and_opcodeMask (w : CmdWord) : w &&& opcodeMask = cmdWord (opField w) 0 := by
  have hmask : opcodeMask = 0xF#4 ++ (0 : Word) := rfl
  conv_lhs => rw [← cmdWord_fields w, cmdWord, hmask, BitVec.and_append]
  congr 1
  · exact BitVec.and_allOnes
  · exact BitVec.and_zero

/-- Match and mask: a masked word with a command's opcode, and its operand where it is read, selects that command. -/
theorem decode_of_masked {w : CmdWord} {i : Instr} (op : Opcode) (hw : w &&& opcodeMask = cmdWord op 0)
    (hop : i.opcode = op) (himm : i.takesOperand = true → immField w = i.operand) : decode w = .command i := by
  rw [and_opcodeMask] at hw
  have hfield : opField w = op := by simpa using congrArg opField hw
  exact (decode_eq_command_iff w i).2 ⟨hfield.trans hop.symm, himm⟩

/-- Settles O1: a word that decodes to a command shares the command's opcode, and its operand where it has one. -/
theorem decodeEncodeAgree : Obligations.DecodeEncodeAgree := by
  refine ⟨decode_encode, fun w i h => ?_⟩
  obtain ⟨hop, himm⟩ := (decode_eq_command_iff w i).1 h
  refine ⟨?masked, fun hon hoff hget hrel => ?canonical⟩
  case masked =>
    change w &&& opcodeMask = encode i &&& opcodeMask
    rw [and_opcodeMask, and_opcodeMask, hop, encode, opField_cmdWord]
  case canonical =>
    rw [encode, ← hop, ← himm ((takesOperand_iff i).2 ⟨hon, hoff, hget, hrel⟩), cmdWord_fields]

/-- Settles O2: each row is its masked opcode, and the decoder rejects what no row selects. -/
theorem opcodeSelectsCommand : Obligations.OpcodeSelectsCommand := by
  intro w
  refine ⟨fun h => decode_of_masked 0x1 h rfl fun _ => rfl, fun h => decode_of_masked 0x2 h rfl fun _ => rfl,
    fun h => decode_of_masked 0x3 h rfl fun _ => rfl, fun h => decode_of_masked 0x4 h rfl fun _ => rfl,
    fun h => decode_of_masked 0x5 h rfl nofun, fun h => decode_of_masked 0x6 h rfl nofun,
    fun h => decode_of_masked 0x7 h rfl fun _ => rfl, fun h => decode_of_masked 0x8 h rfl nofun,
    fun h => decode_of_masked 0x9 h rfl nofun, fun h => ?reserved⟩
  case reserved =>
    obtain ⟨e, he⟩ := (decode_rejected_iff w).2 h
    exact he.trans (congrArg Decoded.rejected (eq_reservedOpcode_of_decode_rejected he))

/-- Settles O3: the opcode alone selects a command that takes no operand. -/
theorem ignoredOperandSameCommand : Obligations.IgnoredOperandSameCommand := by
  have hdec (i : Instr) (hi : i.takesOperand = false) (imm : Word) : decode (cmdWord i.opcode imm) = .command i :=
    (decode_eq_command_iff _ i).2 ⟨opField_cmdWord _ _, fun h => absurd (hi.symm.trans h) Bool.false_ne_true⟩
  exact ⟨fun imm => ⟨hdec .holdon rfl imm, hdec .holdoff rfl imm, hdec .getpd rfl imm, hdec .release rfl imm⟩,
    rfl, rfl, rfl, rfl⟩

/-! ## The lines of the assembler -/

/-- The word of an assembler line decodes to the command the line stands for (R62, R63). -/
theorem decode_of_assemble {c : AsmCommand} {w : CmdWord} (h : assemble c = some w) : decode w = .command c.instr := by
  obtain ⟨-, hw⟩ := Option.ite_none_right_eq_some.1 h
  rw [← Option.some.inj hw, decode_encode]

/-- Settles O6: a fitting line has the encoder's word, and a count or a duration in its range does not wrap. -/
theorem assembledLineDecodes : Obligations.AssembledLineDecodes := by
  refine ⟨fun c hc => ?_, fun n hlo hhi => ?_, fun d hd => ?_, fun c hc => ?_⟩
  · exact ⟨encode c.instr, if_pos hc, decode_encode _⟩
  · exact BitVec.toInt_ofInt_eq_self (by decide) hlo hhi
  · exact Nat.mod_eq_of_lt hd
  · exact if_neg (ne_true_of_eq_false hc)

/-- Settles O4, row by row of R65's table. -/
theorem workedEncodings : Obligations.WorkedEncodings := by
  unfold Obligations.WorkedEncodings
  decide

/-- Settles O5, word by word. -/
theorem wordsDecode : Obligations.WordsDecode := by
  unfold Obligations.WordsDecode
  decide

end Sys2Proof
end

section
/-! SUPPORT. The command port (30_encoding.md R59 to R61): what an accepted word does, and that no other word matters. -/

namespace Sys2Proof.Machine

/-- An edge does what the event whose condition holds does. -/
theorem step_of_guard {s : State} {e : Event} (h : e.guard s) : step s = .next (e.effect s).nextCycle := by
  rw [step_eq_effect, event_of_guard h]

/-- Settles O7. -/
theorem stepRunsAcceptedCommand : Obligations.StepRunsAcceptedCommand :=
  fun _ _ hr hv hc hd => step_of_acceptsCommand ⟨⟨hr, hv, hc⟩, hd⟩

/-- Settles O9: the edge is the reserved-opcode event, whatever the lifecycle state. -/
theorem reservedOpcodeFault : Obligations.ReservedOpcodeFault := by
  intro s hr hv hc hop
  have hres : s.acceptsReserved := ⟨⟨hr, hv, hc⟩, hop⟩
  rw [step_of_guard (e := .reserved) hres, effect_reserved]
  rfl

/-- The pulse FSM reads nothing at the port but `rst` (R93, R149). -/
theorem step_port_congr_of_pulse {s : State} (hc : s.ctrl = .pulse) {a b : Input} (ha : a.rst = false)
    (hb : b.rst = false) (rest : List Input) :
    step { s with inputs := a :: rest } = step { s with inputs := b :: rest } := by
  rw [step_eq_effect, step_eq_effect, event_of_pulse (s := { s with inputs := a :: rest }) ha hc,
    event_of_pulse (s := { s with inputs := b :: rest }) hb hc]
  dsimp only
  split_ifs <;> rfl

/-- Settles O10: the pulse FSM ignores the port, and an idle edge without `cmd_valid` is quiet. -/
theorem portIgnoredUnlessAccepted : Obligations.PortIgnoredUnlessAccepted := by
  intro s a b rest ha hb
  refine ⟨fun hc => step_port_congr_of_pulse hc ha hb rest, fun hva hvb => ?_⟩
  obtain hc | hc : s.ctrl = .pulse ∨ s.ctrl = .idle := by cases s.ctrl <;> simp
  · exact step_port_congr_of_pulse hc ha hb rest
  · rw [step_of_guard (s := { s with inputs := a :: rest }) (e := .quiet) ⟨ha, hc, hva⟩,
      step_of_guard (s := { s with inputs := b :: rest }) (e := .quiet) ⟨hb, hc, hvb⟩]
    rfl

end Sys2Proof.Machine
end

section
/-! SUPPORT. Edges in a row: the port samples of a later cycle, the dwell of one repetition (41_stepping.md R86), and the
single-step commands (R84, R85). -/

namespace Sys2Proof.Machine

/-! ## The samples of later cycles -/

theorem input_eq_inputAt_of_drop {s t : State} {k : Nat} (h : t.inputs = s.inputs.drop k) : t.input = s.inputAt k := by
  rw [State.input, State.inputAt, h, List.headD_eq_head?_getD, List.head?_drop, List.getD_eq_getElem?_getD]

theorem inputAt_of_drop {s t : State} {k : Nat} (h : t.inputs = s.inputs.drop k) (j : Nat) :
    t.inputAt j = s.inputAt (k + j) := by
  rw [State.inputAt, State.inputAt, h, List.getD_eq_getElem?_getD, List.getD_eq_getElem?_getD, List.getElem?_drop]

/-! ## The dwell of one repetition -/

/-- `s` after `k` edges of dwell (R86). -/
def State.dwelled (s : State) (k : Nat) : State :=
  { s with timer := s.timer - BitVec.ofNat 32 k, inputs := s.inputs.drop k }

/-- The first `timer` edges of a repetition count the timer down and do nothing else, while no cycle resets (R86). -/
theorem run_dwelled {s : State} (hc : s.ctrl = .pulse) (hv : s.rspValid = false) (k : Nat)
    (hk : k ≤ s.timer.toNat) (hrst : ∀ j, j < k → (s.inputAt j).rst = false) : run k s = .next (s.dwelled k) := by
  induction k with
  | zero =>
    have hzero : s.dwelled 0 = s := by simp [State.dwelled]
    rw [run_zero, hzero]
  | succ k ih =>
    have hrun := ih (by omega) fun j hj => hrst j (by omega)
    have hin : (s.dwelled k).input.rst = false := by
      rw [input_eq_inputAt_of_drop (s := s) rfl]
      exact hrst k (by omega)
    have ht : (s.dwelled k).timer ≠ 0 := by
      unfold State.dwelled
      bv_omega
    have hnext : (Event.dwell.effect (s.dwelled k)).nextCycle = s.dwelled (k + 1) := by
      simp [State.dwelled, State.nextCycle, hv, BitVec.ofNat_add, sub_sub]
    rw [run_add hrun 1, run_succ (step_of_guard (e := .dwell) ⟨hin, hc, ht⟩), run_zero, hnext]

/-- The last repetition: its dwell and then the completion, while no cycle resets (R86, R88). -/
theorem run_last_repetition {s : State} (hc : s.ctrl = .pulse) (hv : s.rspValid = false) (hs : s.stepsLeft = 0)
    (hrst : ∀ j, j ≤ s.timer.toNat → (s.inputAt j).rst = false) :
    run (s.timer.toNat + 1) s = .next (completeStep (s.dwelled s.timer.toNat)).nextCycle := by
  have hdwell := run_dwelled hc hv s.timer.toNat le_rfl fun j hj => hrst j hj.le
  have hin : (s.dwelled s.timer.toNat).input.rst = false := by
    rw [input_eq_inputAt_of_drop (s := s) rfl]
    exact hrst _ le_rfl
  have ht : (s.dwelled s.timer.toNat).timer = 0 := by simp [State.dwelled]
  rw [run_add hdwell 1, run_succ (step_of_guard (e := .completion) ⟨hin, hc, ht, hs⟩), run_zero]
  rfl

/-! ## The single-step commands -/

/-- STEPF 1 or STEPB 1 in ACTIVE: one repetition, and OK after `p + 1` further edges (R81, R88). -/
theorem single_step {s : State} {d : Direction} (h : s.acceptsCommand (stepInstr d 1)) (hl : s.life = .active)
    (hrst : ∀ k, k ≤ s.pulseDuration.toNat + 1 → (s.inputAt k).rst = false) :
    ∃ t u, step s = .next t ∧ t.stepsLeft = 0 ∧ t.busy = true ∧
      run (1 + (s.pulseDuration.toNat + 1)) s = .next u ∧ u.busy = false ∧ u.rspValid = true ∧ u.rspCode = 0x0 ∧
      u.phaseState = nextPhase s.phaseState d := by
  have hstart := step_of_guard (e := .start d 1) ⟨hl, h, by decide⟩
  have hports (j : Nat) (hj : j ≤ s.pulseDuration.toNat) :
      (((Event.start d 1).effect s).nextCycle.inputAt j).rst = false := by
    rw [inputAt_of_drop (s := s) (k := 1) List.drop_one.symm]
    exact hrst (1 + j) (by omega)
  have hlast := run_last_repetition (s := ((Event.start d 1).effect s).nextCycle) rfl rfl rfl hports
  exact ⟨_, _, hstart, rfl, rfl, (run_add (run_succ hstart 0) _).trans hlast, rfl, rfl, rfl, rfl⟩

/-- Settles O33: STEP1F and STEP1B are the step commands with count 1. -/
theorem singleStepCommands : Obligations.SingleStepCommands :=
  fun _ hacc hl hrst =>
    ⟨fun h => single_step (d := .forward) ⟨hacc, decode_of_assemble h⟩ hl hrst,
      fun h => single_step (d := .backward) ⟨hacc, decode_of_assemble h⟩ hl hrst⟩

end Sys2Proof.Machine
end

section
/-! SUPPORT. CREATE1 and CREATE2 at their accepting edge (40_construction.md R70 to R72), with what holds of every
command there: its word as opcode and operand, and its outcome on either side of the lifecycle check. -/

namespace Sys2Proof.Machine

open Sys2Proof

/-! ## A command's word and its outcome -/

/-- A command's word is the word of its opcode alone with the operand in the low bits (R55). -/
theorem encode_eq_or {i : Instr} {w : CmdWord} (op : Opcode) (hop : i.opcode = op) (hw : cmdWord op 0 = w) :
    encode i = w ||| i.operand.setWidth 36 := by
  subst hop hw
  apply BitVec.eq_of_getLsbD_eq
  intro k hk
  rw [encode, BitVec.getLsbD_or, getLsbD_cmdWord, getLsbD_cmdWord, BitVec.getLsbD_setWidth]
  by_cases h : k < 32
  · simp [h, hk]
  · simp [h, BitVec.getLsbD_of_ge i.operand k (not_lt.1 h)]

/-- A command that the lifecycle allows does what its event does (R61). -/
theorem exec_of_allowed {i : Instr} {s : State} (h : lifeViolation (isCreate i) s.life = none) :
    exec i s = .next ((allowedEvent i).effect s) := by
  rw [exec_eq_checked, checked_allowed h]

/-- A command that the lifecycle forbids records the violation and its code, and does nothing else (R123). -/
theorem exec_of_violation {i : Instr} {s : State} {code : ReportCode}
    (h : lifeViolation (isCreate i) s.life = some code) :
    exec i s = .next { s with eLife := true, rspValid := true, rspCode := code.bits, rspData := 0 } := by
  rw [exec_eq_checked, checked_violation h, takeFault_life]

/-! ## The create commands -/

/-- With two enable pins every pin is attempted (R70). -/
theorem attempted_two_and (v : PinVec) : attempted true &&& v = v := BitVec.allOnes_and

/-- The report data are the failures also where there are none. -/
theorem failures_data (v : PinVec) : (if v ≠ 0 then zext32 v else 0) = v.setWidth 32 := by
  split_ifs with h
  · rfl
  · rw [not_not.1 h]; rfl

theorem isCreate_createInstr (m : Bool) (imm : Word) : isCreate (createInstr m imm) = true := by cases m <;> rfl

theorem allowedEvent_createInstr (m : Bool) (imm : Word) : allowedEvent (createInstr m imm) = .create m imm := by
  cases m <;> rfl

/-- A create command in UNBOUND constructs, and reports OK exactly when no attempted pin failed (R70). -/
theorem exec_createInstr_unbound (m : Bool) (imm : Word) {s : State} (hl : s.life = .unbound) :
    exec (createInstr m imm) s = .next
      { s with
        pinOwn := attempted m &&& s.input.acqOk, acqFail := attempted m &&& ~~~s.input.acqOk, twoEn := m
        phaseState := 0, direction := .forward, holdEnabled := false, enLvl := false, pulseDuration := imm
        life := .active, rspValid := true
        rspCode := if attempted m &&& ~~~s.input.acqOk = 0 then 0x0 else 0x2
        rspData := (attempted m &&& ~~~s.input.acqOk).setWidth 32 } := by
  rw [exec_of_allowed (by rw [isCreate_createInstr, hl]; rfl), allowedEvent_createInstr, effect_create,
    failures_data, ite_not]
  rfl

/-- A create command outside UNBOUND is the lifecycle violation of R123, with the code of its lifecycle state. -/
theorem exec_createInstr_violation (m : Bool) (imm : Word) (s : State) :
    (s.life = .active → exec (createInstr m imm) s =
      .next { s with eLife := true, rspValid := true, rspCode := 0x6, rspData := 0 }) ∧
    (s.life = .released → exec (createInstr m imm) s =
      .next { s with eLife := true, rspValid := true, rspCode := 0x7, rspData := 0 }) := by
  constructor <;> intro hl
  · exact exec_of_violation (code := .eAlreadyCreated) (by rw [isCreate_createInstr, hl]; rfl)
  · exact exec_of_violation (code := .eReleased) (by rw [isCreate_createInstr, hl]; rfl)

/-- Settles O16: a create command that attempts every pin but EN1. -/
theorem create1Result : Obligations.Create1Result :=
  fun imm s =>
    ⟨encode_eq_or 0x1 rfl (by decide), exec_createInstr_unbound false imm, exec_createInstr_violation false imm s⟩

/-- Settles O17: a create command that attempts every pin, so the answers are the owned pins. -/
theorem create2Result : Obligations.Create2Result := by
  intro imm s
  refine ⟨encode_eq_or 0x2 rfl (by decide), fun hl => ?unbound, exec_createInstr_violation true imm s⟩
  case unbound =>
    have hcreate := exec_createInstr_unbound true imm hl
    simpa only [createInstr, attempted_two_and] using hcreate

end Sys2Proof.Machine
end

section
/-! SUPPORT. STEPF and STEPB at their accepting edge (41_stepping.md R81, R90), one edge of the pulse FSM (R86 to R88),
and what follows from them for `ctrl` and the counters (R93 to R95). -/

namespace Sys2Proof.Machine

open Sys2Proof

/-! ## The step commands at their accepting edge -/

/-- A command that ACTIVE allows is the violation of R123 elsewhere, with the code of the lifecycle state. -/
theorem exec_violation_of_not_isCreate {i : Instr} (hi : isCreate i = false) (s : State) :
    (s.life = .unbound →
      exec i s = .next { s with eLife := true, rspValid := true, rspCode := 0x5, rspData := 0 }) ∧
    (s.life = .released →
      exec i s = .next { s with eLife := true, rspValid := true, rspCode := 0x7, rspData := 0 }) := by
  constructor <;> intro hl
  · exact exec_of_violation (code := .eNotCreated) (by rw [hi, hl]; rfl)
  · exact exec_of_violation (code := .eReleased) (by rw [hi, hl]; rfl)

theorem isCreate_stepInstr (d : Direction) (imm : Word) : isCreate (stepInstr d imm) = false := by cases d <;> rfl

theorem allowedEvent_stepInstr (d : Direction) (imm : Word) : allowedEvent (stepInstr d imm) = stepEvent d imm := by
  cases d <;> rfl

/-- In ACTIVE a step command counts: it starts or warns (R61, R90). -/
theorem exec_stepInstr_active (d : Direction) (imm : Word) {s : State} (hl : s.life = .active) :
    exec (stepInstr d imm) s = .next (stepCommand d imm s) := by
  rw [exec_of_allowed (by rw [isCreate_stepInstr, hl]; rfl), allowedEvent_stepInstr, stepEvent_effect]

theorem stepCommand_of_one_le {imm : Word} (h : 1 ≤ imm.toInt) (d : Direction) (s : State) :
    stepCommand d imm s = stepStart d imm s := by
  obtain ⟨hlt, -⟩ | ⟨-, hstart⟩ := stepCommand_cases d imm s
  · omega
  · exact hstart

theorem stepCommand_of_lt_one {imm : Word} (h : imm.toInt < 1) (d : Direction) (s : State) :
    stepCommand d imm s = countWarning s := by
  obtain ⟨-, hwarn⟩ | ⟨hle, -⟩ := stepCommand_cases d imm s
  · exact hwarn
  · omega

/-- The step command of either direction, for every count and lifecycle state (R81, R90, R123). -/
theorem exec_stepInstr (d : Direction) (imm : Word) (s : State) :
    (s.life = .active → 1 ≤ imm.toInt →
      exec (stepInstr d imm) s = .next { s with
        direction := d, phaseState := nextPhase s.phaseState d, enLvl := true, timer := s.pulseDuration,
        stepsLeft := imm - 1, ctrl := .pulse, rspValid := false }) ∧
    (s.life = .active → imm.toInt < 1 →
      exec (stepInstr d imm) s = .next { s with warn := true, rspValid := true, rspCode := 0x1, rspData := 0 }) ∧
    (s.life = .unbound →
      exec (stepInstr d imm) s = .next { s with eLife := true, rspValid := true, rspCode := 0x5, rspData := 0 }) ∧
    (s.life = .released →
      exec (stepInstr d imm) s = .next { s with eLife := true, rspValid := true, rspCode := 0x7, rspData := 0 }) := by
  refine ⟨fun hl hn => ?start, fun hl hn => ?warning, exec_violation_of_not_isCreate (isCreate_stepInstr d imm) s⟩
  case start => rw [exec_stepInstr_active d imm hl, stepCommand_of_one_le hn]; rfl
  case warning => rw [exec_stepInstr_active d imm hl, stepCommand_of_lt_one hn]; rfl

/-- Settles O18: the step command forward. -/
theorem stepfResult : Obligations.StepfResult :=
  fun imm s => ⟨encode_eq_or 0x3 rfl (by decide), exec_stepInstr .forward imm s⟩

/-- Settles O19: the step command backward. -/
theorem stepbResult : Obligations.StepbResult :=
  fun imm s => ⟨encode_eq_or 0x4 rfl (by decide), exec_stepInstr .backward imm s⟩

/-- Settles O26, entry by entry. -/
theorem nextPhaseTable : Obligations.NextPhaseTable := by
  unfold Obligations.NextPhaseTable
  decide

/-! ## One edge of the pulse FSM -/

/-- Settles O27: the edge is the dwell event. -/
theorem dwellEdge : Obligations.DwellEdge :=
  fun _ hr hc ht => step_of_guard (e := .dwell) ⟨hr, hc, ht⟩

/-- Settles O28: the edge is the next-repetition event. -/
theorem nextRepetitionEdge : Obligations.NextRepetitionEdge := by
  intro s hr hc ht hs
  rw [step_of_guard (e := .nextRepetition) ⟨hr, hc, ht, hs⟩, effect_nextRepetition, nextPhase_eq]
  rfl

/-- Settles O29: the edge is the completion event. -/
theorem completionEdge : Obligations.CompletionEdge := by
  intro s hr hc ht hs
  rw [step_of_guard (e := .completion) ⟨hr, hc, ht, hs⟩, effect_completion]
  cases s.holdEnabled <;> rfl

/-- In PULSE an edge without reset dwells, starts the next repetition, or completes. -/
theorem pulse_guard_cases {s : State} (hr : s.input.rst = false) (hc : s.ctrl = .pulse) :
    Event.dwell.guard s ∨ Event.nextRepetition.guard s ∨ Event.completion.guard s := by
  obtain ⟨ht, -⟩ | ⟨ht, hs, -⟩ | ⟨ht, hs, -⟩ := pulseEdge_cases s
  · exact .inl ⟨hr, hc, ht⟩
  · exact .inr (.inl ⟨hr, hc, ht, hs⟩)
  · exact .inr (.inr ⟨hr, hc, ht, hs⟩)

/-- A counter that is not 0 is decremented without a borrow (R94). -/
theorem toNat_sub_one_add_one {x : Word} (h : x ≠ 0) : (x - 1).toNat + 1 = x.toNat := by bv_omega

/-- Settles O35: dwell lowers `timer` under the same `steps_left`, the next repetition lowers `steps_left`. -/
theorem pulseMeasureDecreases : Obligations.PulseMeasureDecreases := by
  intro s hr hc
  obtain h | h | h := pulse_guard_cases hr hc <;> refine ⟨_, step_of_guard h, ?_⟩
  · obtain ⟨-, -, ht⟩ := h
    exact .inr (.inr ⟨rfl, Nat.lt_of_succ_le (toNat_sub_one_add_one ht).le⟩)
  · obtain ⟨-, -, -, hs⟩ := h
    exact .inr (.inl (Nat.lt_of_succ_le (toNat_sub_one_add_one hs).le))
  · exact .inl rfl

/-- Settles O37: none of the three pulse events writes these registers, and only completion writes `ctrl`, `en_lvl` and
the response's code and data. -/
theorem pulseFrame : Obligations.PulseFrame := by
  intro s hr hc
  obtain h | h | h := pulse_guard_cases hr hc <;> refine ⟨_, step_of_guard h, ?_⟩
  · simp [hc]
  · simp [hc]
  · simp [show s.completesStep from h]

/-! ## `ctrl` and the counters over every edge -/

/-- An accepted word enters PULSE only as a step command that starts (R95). -/
theorem ctrl_effect_of_accepts {s : State} (ha : s.accepts) (hn : ¬ s.startsStep) :
    (s.event.effect s).ctrl = .idle := by
  obtain ⟨-, -, hc⟩ := id ha
  rw [accepts_iff] at ha
  rw [startsStep_iff] at hn
  cases he : s.event <;> rw [he] at ha hn
  case reset | dwell | nextRepetition | completion | quiet => exact absurd ha Bool.false_ne_true
  case start d imm => exact absurd ⟨d, imm, rfl⟩ hn
  all_goals simpa using hc

/-- Settles O34: each row's condition names its event. -/
theorem ctrlTransitionTable : Obligations.CtrlTransitionTable := by
  intro s t h
  have hctrl : t.ctrl = (s.event.effect s).ctrl := by rw [eq_effect_of_step h, nextCycle_ctrl]
  have hrow {e : Event} (he : e.guard s) : t.ctrl = (e.effect s).ctrl := by rw [hctrl, event_of_guard he]
  refine ⟨fun hr => hrow (e := .reset) hr, fun hr hc hv => ?quiet, fun hs => ?start,
    fun ha hn => hctrl.trans (ctrl_effect_of_accepts ha hn), fun hr hc ht => ?dwell, fun hr hc ht hs => ?next,
    fun hr hc ht hs => hrow (e := .completion) ⟨hr, hc, ht, hs⟩⟩
  case quiet => exact (hrow (e := .quiet) ⟨hr, hc, hv⟩).trans hc
  case start =>
    obtain ⟨d, imm, he⟩ := (startsStep_iff s).1 hs
    rw [hctrl, he, effect_start]
  case dwell => exact (hrow (e := .dwell) ⟨hr, hc, ht⟩).trans hc
  case next => exact (hrow (e := .nextRepetition) ⟨hr, hc, ht, hs⟩).trans hc

/-- A count that is not negative is the number its bits stand for (R57(b)). -/
theorem toInt_eq_toNat_of_nonneg {imm : Word} (h : 0 ≤ imm.toInt) : imm.toInt = imm.toNat :=
  BitVec.toInt_eq_toNat_of_msb (by rw [BitVec.msb_eq_toInt]; exact decide_eq_false h.not_gt)

/-- The count's `imm - 1` does not borrow (R94). -/
theorem toNat_count_sub_one {imm : Word} (h : 1 ≤ imm.toInt) : (imm - 1).toNat + 1 = imm.toNat :=
  toNat_sub_one_add_one (by rintro rfl; simp at h)

/-- Settles O36: only a start, the next repetition and dwell write the counters. -/
theorem countersNeverWrap : Obligations.CountersNeverWrap := by
  intro s t hr h
  have hg := event_guard s
  rw [eq_effect_of_step h]
  cases he : s.event <;> rw [he] at hg
  case reset => exact absurd he (event_ne_reset hr)
  case dwell =>
    obtain ⟨-, -, ht⟩ := hg
    exact ⟨.inr (.inr (toNat_sub_one_add_one ht)), .inl rfl⟩
  case nextRepetition =>
    obtain ⟨-, -, -, hs⟩ := id hg
    exact ⟨.inr (.inl ⟨rfl, .inr hg⟩), .inr (.inl (toNat_sub_one_add_one hs))⟩
  case start d imm =>
    obtain ⟨-, hi, hn⟩ := hg
    have hexact : ((imm - 1).toNat : Int) = imm.toInt - 1 := by
      rw [toInt_eq_toNat_of_nonneg (zero_le_one.trans hn), ← toNat_count_sub_one hn]
      omega
    exact ⟨.inr (.inl ⟨rfl, .inl ((startsStep_iff s).2 ⟨d, imm, he⟩)⟩),
      .inr (.inr ⟨d, imm, hi, hexact, repetitionsAfterFirst_bound hn⟩)⟩
  all_goals simp

end Sys2Proof.Machine
end

section
/-! SUPPORT. A step command from its accepting edge to its return: the rows one after another, each `p + 1` cycles
(41_stepping.md R89), and what that makes of the phase state (R92). -/

namespace Sys2Proof.Machine

open Sys2Proof

/-! ## The phase state after a number of repetitions -/

theorem phaseAfter_zero (d : Direction) (ps : Phase) : phaseAfter d 0 ps = ps := by
  cases d <;> simp [phaseAfter]

theorem nextPhase_eq_phaseAfter (d : Direction) (ps : Phase) : nextPhase ps d = phaseAfter d 1 ps := by
  cases d <;> rfl

/-- Repetitions in one direction add up. -/
theorem phaseAfter_phaseAfter (d : Direction) (j k : Nat) (ps : Phase) :
    phaseAfter d j (phaseAfter d k ps) = phaseAfter d (k + j) ps := by
  cases d with
  | forward => simp [phaseAfter, BitVec.ofNat_add, add_assoc]
  | backward => simp [phaseAfter, BitVec.ofNat_add, sub_sub]

/-- The repetition of the accepting edge comes before the others (R81, R89). -/
theorem phaseAfter_nextPhase (d : Direction) (k : Nat) (ps : Phase) :
    phaseAfter d k (nextPhase ps d) = phaseAfter d (k + 1) ps := by
  rw [nextPhase_eq_phaseAfter, phaseAfter_phaseAfter, Nat.add_comm]

/-- The opposite direction undoes as many repetitions (R92(b)). -/
theorem phaseAfter_opposite (d : Direction) (k : Nat) (ps : Phase) :
    phaseAfter d.opposite k (phaseAfter d k ps) = ps := by
  cases d with
  | forward => exact add_sub_cancel_right _ _
  | backward => exact sub_add_cancel _ _

/-- Four repetitions are a full turn (R92(a)). -/
theorem phaseAfter_of_four_dvd (d : Direction) {k : Nat} (h : 4 ∣ k) (ps : Phase) : phaseAfter d k ps = ps := by
  have hk : BitVec.ofNat 2 k = 0 := by
    apply BitVec.eq_of_toNat_eq
    exact Nat.mod_eq_zero_of_dvd h
  cases d <;> simp [phaseAfter, hk]

/-- The phase pins show the phase state and the ownership, and nothing else (R42, R43). -/
theorem pinLevel_phase_congr {s t : State} (hown : t.pinOwn = s.pinOwn) (hps : t.phaseState = s.phaseState) {p : Pin}
    (hp : p.index < 4) : t.pinLevel p = s.pinLevel p := by
  unfold State.pinLevel State.pinOe
  rw [pinLvl_getLsbD_row t hp, pinLvl_getLsbD_row s hp, hown, hps]

/-! ## The rows of a step command -/

/-- A row has just been entered (R81, R87). -/
structure State.EntersRow (s : State) : Prop where
  pulse : s.ctrl = .pulse
  no_report : s.rspValid = false
  timer_loaded : s.timer = s.pulseDuration

/-- `s`, which enters a row, when it enters the `k`-th row after that one (R87, R89). -/
def State.atRow (s : State) (k : Nat) : State :=
  { s with
    phaseState := phaseAfter s.direction k s.phaseState
    stepsLeft := s.stepsLeft - BitVec.ofNat 32 k
    inputs := s.inputs.drop (k * (s.pulseDuration.toNat + 1)) }

theorem State.EntersRow.atRow {s : State} (h : s.EntersRow) (k : Nat) : (s.atRow k).EntersRow := { h with }

/-- The dwell of a row and then the entry of the next one, while no cycle resets (R86, R87). -/
theorem run_next_row {s : State} (h : s.EntersRow) (hs : s.stepsLeft ≠ 0)
    (hrst : ∀ j, j < s.pulseDuration.toNat + 1 → (s.inputAt j).rst = false) :
    run (s.pulseDuration.toNat + 1) s = .next (s.atRow 1) := by
  have hdwell := run_dwelled h.pulse h.no_report s.pulseDuration.toNat (by rw [h.timer_loaded])
    fun j hj => hrst j (by omega)
  have hin : (s.dwelled s.pulseDuration.toNat).input.rst = false := by
    rw [input_eq_inputAt_of_drop (s := s) rfl]
    exact hrst _ (Nat.lt_succ_self _)
  have ht : (s.dwelled s.pulseDuration.toNat).timer = 0 := by simp [State.dwelled, h.timer_loaded]
  have hnext : (Event.nextRepetition.effect (s.dwelled s.pulseDuration.toNat)).nextCycle = s.atRow 1 := by
    simp [State.dwelled, State.atRow, State.nextCycle, nextPhase_eq_phaseAfter, h.no_report, h.timer_loaded]
  rw [run_add hdwell 1, run_succ (step_of_guard (e := .nextRepetition) ⟨hin, h.pulse, ht, hs⟩), run_zero, hnext]

theorem atRow_zero (s : State) : s.atRow 0 = s := by simp [State.atRow, phaseAfter_zero]

/-- The row after the `k`-th is the `k + 1`-th. -/
theorem atRow_atRow_one (s : State) (k : Nat) : (s.atRow k).atRow 1 = s.atRow (k + 1) := by
  simp [State.atRow, phaseAfter_phaseAfter, BitVec.ofNat_add, sub_sub, add_mul]

/-- The timing of the rows: the `k`-th row after this one is entered after `k(p + 1)` edges (R89). -/
theorem run_atRow {s : State} (h : s.EntersRow) (k : Nat) (hk : k ≤ s.stepsLeft.toNat)
    (hrst : ∀ j, j < k * (s.pulseDuration.toNat + 1) → (s.inputAt j).rst = false) :
    run (k * (s.pulseDuration.toNat + 1)) s = .next (s.atRow k) := by
  induction k with
  | zero => rw [Nat.zero_mul, run_zero, atRow_zero]
  | succ k ih =>
    rw [Nat.succ_mul] at hrst ⊢
    have hrows := ih (by omega) fun j hj => hrst j (by omega)
    have hs : (s.atRow k).stepsLeft ≠ 0 := by
      unfold State.atRow
      bv_omega
    have hrow := run_next_row (h.atRow k) hs fun j hj => by
      rw [inputAt_of_drop (s := s) rfl]
      exact hrst _ (Nat.add_lt_add_left hj _)
    rw [run_add hrows, ← atRow_atRow_one]
    exact hrow

/-- Where the block is after `c` edges: in row `c / (p + 1)`, with `c % (p + 1)` cycles of it gone (R89). -/
theorem run_within_row {s : State} (h : s.EntersRow) {c : Nat}
    (hc : c / (s.pulseDuration.toNat + 1) ≤ s.stepsLeft.toNat) (hrst : ∀ j, j < c → (s.inputAt j).rst = false) :
    run c s = .next ((s.atRow (c / (s.pulseDuration.toNat + 1))).dwelled (c % (s.pulseDuration.toNat + 1))) := by
  have hsplit := Nat.div_add_mod' c (s.pulseDuration.toNat + 1)
  have hmod : c % (s.pulseDuration.toNat + 1) ≤ s.pulseDuration.toNat :=
    Nat.le_of_lt_succ (Nat.mod_lt _ (Nat.succ_pos _))
  have hrows := run_atRow h _ hc fun j hj => hrst j (hj.trans_le (Nat.div_mul_le_self _ _))
  have hrow := run_dwelled (h.atRow (c / _)).pulse (h.atRow _).no_report (c % (s.pulseDuration.toNat + 1))
    (by rw [(h.atRow _).timer_loaded]; exact hmod) fun j hj => by
      rw [inputAt_of_drop (s := s) rfl]
      exact hrst _ ((Nat.add_lt_add_left hj _).trans_eq hsplit)
  conv_lhs => rw [← hsplit]
  exact (run_add hrows _).trans hrow

/-- `s`, which enters a row, when all the rows from this one on have stood and the command has returned (R88, R89). -/
def State.rowsDone (s : State) : State :=
  { s with
    ctrl := .idle, phaseState := phaseAfter s.direction s.stepsLeft.toNat s.phaseState
    enLvl := s.holdEnabled && s.enLvl, timer := 0, stepsLeft := 0, rspValid := true, rspCode := 0
    rspData := 0, inputs := s.inputs.drop ((s.stepsLeft.toNat + 1) * (s.pulseDuration.toNat + 1)) }

/-- The completion edge, after the dwell of the last row (R88). -/
theorem completeStep_lastRow {s : State} (h : s.EntersRow) :
    (completeStep ((s.atRow s.stepsLeft.toNat).dwelled s.pulseDuration.toNat)).nextCycle = s.rowsDone := by
  rw [State.rowsDone, Nat.succ_mul]
  simp [completeStep, State.report, ReportCode.bits, State.atRow, State.dwelled, State.nextCycle, h.timer_loaded,
    Nat.add_assoc]

/-- All rows and then the completion: `steps_left + 1` rows of `p + 1` cycles (R88, R89). -/
theorem run_rowsDone {s : State} (h : s.EntersRow)
    (hrst : ∀ j, j < (s.stepsLeft.toNat + 1) * (s.pulseDuration.toNat + 1) → (s.inputAt j).rst = false) :
    run ((s.stepsLeft.toNat + 1) * (s.pulseDuration.toNat + 1)) s = .next s.rowsDone := by
  rw [Nat.succ_mul] at hrst ⊢
  have hrows := run_atRow h s.stepsLeft.toNat le_rfl fun j hj => hrst j (by omega)
  have hlast := run_last_repetition (h.atRow s.stepsLeft.toNat).pulse (h.atRow _).no_report
    (by simp [State.atRow]) fun j hj => by
      rw [(h.atRow _).timer_loaded] at hj
      rw [inputAt_of_drop (s := s) rfl]
      exact hrst _ (Nat.add_lt_add_left (Nat.lt_succ_of_le hj) _)
  rw [(h.atRow _).timer_loaded] at hlast
  rw [run_add hrows, ← completeStep_lastRow h]
  exact hlast

/-! ## A step command from its acceptance to its return -/

/-- `s` after the edge at which a step command starts (R81). -/
def State.stepStarted (s : State) (d : Direction) (imm : Word) : State := ((Event.start d imm).effect s).nextCycle

/-- `s` when a step command that it accepted with count `n` has returned (R88, R89). -/
def State.stepReturned (s : State) (d : Direction) (n : Nat) : State :=
  { s with
    ctrl := .idle, direction := d, phaseState := phaseAfter d n s.phaseState, enLvl := s.holdEnabled, timer := 0
    stepsLeft := 0, rspValid := true, rspCode := 0, rspData := 0
    inputs := s.inputs.drop (1 + n * (s.pulseDuration.toNat + 1)) }

theorem stepStarted_entersRow (s : State) (d : Direction) (imm : Word) : (s.stepStarted d imm).EntersRow :=
  ⟨rfl, rfl, rfl⟩

theorem stepStarted_inputAt (s : State) (d : Direction) (imm : Word) (j : Nat) :
    (s.stepStarted d imm).inputAt j = s.inputAt (1 + j) :=
  inputAt_of_drop List.drop_one.symm j

/-- The rows that a count of `n` starts are the row of the accepting edge and `n - 1` more (R81, R87). -/
theorem stepStarted_rowsDone (s : State) (d : Direction) {imm : Word} (hn : 1 ≤ imm.toInt) :
    (s.stepStarted d imm).rowsDone = s.stepReturned d imm.toNat := by
  rw [← toNat_count_sub_one hn, State.stepReturned, ← phaseAfter_nextPhase, ← List.drop_drop, List.drop_one]
  simp only [State.rowsDone, State.stepStarted, effect_start, State.nextCycle, Bool.and_true]

section
variable {s : State} {d : Direction} {imm : Word} (h : s.acceptsCommand (stepInstr d imm)) (hl : s.life = .active)
  (hn : 1 ≤ imm.toInt) (hrst : ∀ k, k ≤ imm.toNat * (s.pulseDuration.toNat + 1) → (s.inputAt k).rst = false)
include h hl hn

theorem run_one_stepStarted : run 1 s = .next (s.stepStarted d imm) :=
  run_succ (step_of_guard (e := .start d imm) ⟨hl, h, hn⟩) 0

include hrst

/-- Cycle `c` of a step command in progress: `c / (p + 1)` rows are over (R89). -/
theorem run_step_in_progress {c : Nat} (hc : c < imm.toNat * (s.pulseDuration.toNat + 1)) :
    run (1 + c) s = .next (((s.stepStarted d imm).atRow (c / (s.pulseDuration.toNat + 1))).dwelled
      (c % (s.pulseDuration.toNat + 1))) := by
  have hrow : c / (s.pulseDuration.toNat + 1) ≤ (s.stepStarted d imm).stepsLeft.toNat := by
    have hlt := Nat.div_lt_of_lt_mul (Nat.mul_comm _ _ ▸ hc)
    have hcount := toNat_count_sub_one hn
    change _ ≤ (imm - 1).toNat
    omega
  rw [run_add (run_one_stepStarted h hl hn)]
  refine run_within_row (stepStarted_entersRow s d imm) hrow fun j hj => ?_
  rw [stepStarted_inputAt]
  exact hrst _ (by omega)

/-- A step command returns after its accepting edge and `n(p + 1)` further ones (R89). -/
theorem run_stepReturned :
    run (1 + imm.toNat * (s.pulseDuration.toNat + 1)) s = .next (s.stepReturned d imm.toNat) := by
  have hcount : (s.stepStarted d imm).stepsLeft.toNat + 1 = imm.toNat := toNat_count_sub_one hn
  have hrows := run_rowsDone (stepStarted_entersRow s d imm) fun j hj => by
    rw [hcount] at hj
    rw [stepStarted_inputAt]
    exact hrst _ (Nat.one_add_le_iff.2 hj)
  rw [hcount, stepStarted_rowsDone s d hn] at hrows
  exact (run_add (run_one_stepStarted h hl hn) _).trans hrows

end

/-- Settles O30: row `c / (p + 1)` stands in cycle `c`, and after the last row the command returns. -/
theorem stepTimingLaw : Obligations.StepTimingLaw := by
  intro s d imm h hl hn hrst
  refine ⟨fun c hc => ⟨_, run_step_in_progress h hl hn hrst hc, rfl, rfl, rfl, rfl, rfl, ?row⟩,
    _, run_stepReturned h hl hn hrst, rfl, rfl, rfl, rfl, rfl, rfl, rfl, rfl, rfl⟩
  case row => exact phaseAfter_nextPhase d _ s.phaseState

/-- Settles O32: `n` repetitions in one direction, and `n` is whole turns. -/
theorem periodFour : Obligations.PeriodFour := by
  intro s d imm h hl hn hfour hrst
  have hphase : (s.stepReturned d imm.toNat).phaseState = s.phaseState := phaseAfter_of_four_dvd d hfour s.phaseState
  exact ⟨_, run_stepReturned h hl hn hrst, rfl, hphase,
    fun _ => pinLevel_phase_congr (s := s) (t := s.stepReturned d imm.toNat) rfl hphase⟩

/-! ## Two step commands in a row -/

/-- What a step command with count `n` leaves when it has returned, also where `n` is 0 and it only warned
(R89, R90). -/
structure State.ReturnsTo (s : State) (d : Direction) (n : Nat) (t : State) : Prop where
  idle : t.ctrl = .idle
  life : t.life = s.life
  pulseDuration : t.pulseDuration = s.pulseDuration
  pinOwn : t.pinOwn = s.pinOwn
  eIllegal : t.eIllegal = s.eIllegal
  eLife : t.eLife = s.eLife
  phaseState : t.phaseState = phaseAfter d n s.phaseState
  inputs : t.inputs = s.inputs.drop (1 + n * (s.pulseDuration.toNat + 1))

/-- A step command with any count of at least 0 returns after its accepting edge and `n(p + 1)` further ones. -/
theorem run_stepInstr {s : State} {d : Direction} {imm : Word} (h : s.acceptsCommand (stepInstr d imm))
    (hl : s.life = .active) (hn : 0 ≤ imm.toInt)
    (hrst : ∀ k, k ≤ imm.toNat * (s.pulseDuration.toNat + 1) → (s.inputAt k).rst = false) :
    ∃ t, run (1 + imm.toNat * (s.pulseDuration.toNat + 1)) s = .next t ∧ s.ReturnsTo d imm.toNat t := by
  obtain hzero | hpos := hn.eq_or_lt
  · have hcount : imm.toNat = 0 := by
      rw [toInt_eq_toNat_of_nonneg hn] at hzero
      exact Int.natCast_eq_zero.1 hzero.symm
    have hwarn := step_of_guard (e := .countWarning d imm) ⟨hl, h, hzero ▸ zero_lt_one⟩
    obtain ⟨⟨-, -, hc⟩, -⟩ := h
    rw [hcount, Nat.zero_mul]
    refine ⟨_, run_succ hwarn 0, hc, rfl, rfl, rfl, rfl, rfl, (phaseAfter_zero d _).symm, ?_⟩
    rw [Nat.zero_mul]
    exact List.drop_one.symm
  · exact ⟨_, run_stepReturned h hl hpos hrst, rfl, rfl, rfl, rfl, rfl, rfl, rfl, rfl⟩

/-- Settles O31: the second command finds the port open, moves the phase state back as far, and writes no fault bit. -/
theorem oppositeStepsRestorePhase : Obligations.OppositeStepsRestorePhase := by
  intro s d imm h hl hn hv hd hrst
  rw [Nat.two_mul] at hrst ⊢
  obtain ⟨t, hrun, ht⟩ := run_stepInstr h hl hn fun k hk => hrst k (by omega)
  have hin := input_eq_inputAt_of_drop ht.inputs
  have hacc : t.acceptsCommand (stepInstr d.opposite imm) := by
    refine ⟨⟨?_, ?_, ht.idle⟩, ?_⟩ <;> rw [hin]
    · exact hrst _ (by omega)
    · exact hv
    · exact hd
  obtain ⟨u, hrun', hu⟩ := run_stepInstr hacc (ht.life.trans hl) hn fun k hk => by
    rw [inputAt_of_drop ht.inputs]
    rw [ht.pulseDuration] at hk
    exact hrst _ (by omega)
  rw [ht.pulseDuration] at hrun'
  have hphase : u.phaseState = s.phaseState := by rw [hu.phaseState, ht.phaseState, phaseAfter_opposite]
  exact ⟨u, (run_add hrun _).trans hrun', hu.idle, hphase,
    fun _ => pinLevel_phase_congr (hu.pinOwn.trans ht.pinOwn) hphase, hu.eIllegal.trans ht.eIllegal,
    hu.eLife.trans ht.eLife⟩

end Sys2Proof.Machine
end

section
/-! SUPPORT. HOLDON and HOLDOFF at their accepting edge (42_hold.md R100, R101), and that the word of any command is
ignored while a step command is in progress (R60, R93). -/

namespace Sys2Proof.Machine

open Sys2Proof

/-! ## A command's word while busy -/

/-- An edge reads the sample of its own cycle, which is idle when the host has no more samples (R27), and drops it. -/
theorem step_input_cons_tail (s : State) : step { s with inputs := s.input :: s.inputs.tail } = step s := by
  have hevent : State.event { s with inputs := s.input :: s.inputs.tail } = s.event := rfl
  rw [step_eq_effect, step_eq_effect, hevent]
  cases s.event with
  | create m imm => rw [effect_create, effect_create]; rfl
  | release => rw [effect_release, effect_release]; rfl
  | _ => rfl

/-- No command is accepted in PULSE, whichever it is (R60, R93). -/
theorem ignoredWhileBusy (i : Instr) : Certificates.IgnoredWhileBusy i := by
  intro s hr hc _
  exact (step_input_cons_tail s).symm.trans
    (step_port_congr_of_pulse (b := { s.input with cmdValid := false }) hc hr hr s.inputs.tail)

/-! ## The hold commands -/

theorem isCreate_holdInstr (on : Bool) : isCreate (holdInstr on) = false := by cases on <;> rfl

theorem allowedEvent_holdInstr (on : Bool) : allowedEvent (holdInstr on) = .hold on := by cases on <;> rfl

/-- In ACTIVE a hold command sets hold mode and the enable level together (R100, R101); elsewhere it is the violation of
R123. -/
theorem exec_holdInstr (on : Bool) (s : State) :
    (s.life = .active →
      exec (holdInstr on) s = .next { s with
        holdEnabled := on, enLvl := on, rspValid := true, rspCode := 0x0, rspData := 0 }) ∧
    (s.life = .unbound →
      exec (holdInstr on) s = .next { s with eLife := true, rspValid := true, rspCode := 0x5, rspData := 0 }) ∧
    (s.life = .released →
      exec (holdInstr on) s = .next { s with eLife := true, rspValid := true, rspCode := 0x7, rspData := 0 }) := by
  refine ⟨fun hl => ?active, exec_violation_of_not_isCreate (isCreate_holdInstr on) s⟩
  case active =>
    have hallowed : lifeViolation (isCreate (holdInstr on)) s.life = none := by rw [isCreate_holdInstr, hl]; rfl
    rw [exec_of_allowed hallowed, allowedEvent_holdInstr, effect_hold]

/-- Settles O20: the hold command that switches hold mode on; its word is its opcode whatever the operand. -/
theorem holdonResult : Obligations.HoldonResult :=
  have ⟨hdecode, _⟩ := ignoredOperandSameCommand
  ⟨fun imm => (hdecode imm).1, rfl, ignoredWhileBusy .holdon, exec_holdInstr true⟩

/-- Settles O21: the hold command that switches hold mode off, and the enable level with it. -/
theorem holdoffResult : Obligations.HoldoffResult :=
  have ⟨hdecode, _⟩ := ignoredOperandSameCommand
  ⟨fun imm => (hdecode imm).2.1, rfl, ignoredWhileBusy .holdoff, exec_holdInstr false⟩

end Sys2Proof.Machine
end

section
/-! SUPPORT. SETPD and GETPD at their accepting edge (43_config.md R105, R106), and the value that one writes read back by
the other in the next cycle. -/

namespace Sys2Proof.Machine

open Sys2Proof

/-! ## The configuration commands at their accepting edge -/

/-- Every command but the create commands does in ACTIVE what its event does (R61, R123). -/
theorem exec_active_of_not_isCreate {i : Instr} (hi : isCreate i = false) {s : State} (hl : s.life = .active) :
    exec i s = .next ((allowedEvent i).effect s) :=
  exec_of_allowed (by rw [hi, hl]; rfl)

/-- Settles O22: in ACTIVE the operand is written as it is, and elsewhere the lifecycle check forbids the command. -/
theorem setpdResult : Obligations.SetpdResult := by
  intro imm s
  refine ⟨encode_eq_or 0x7 rfl (by decide), fun hl => ?active, exec_violation_of_not_isCreate rfl s⟩
  case active => rw [exec_active_of_not_isCreate rfl hl, allowedEvent, effect_setpd]

/-- Settles O23: in ACTIVE the answer is `pulse_duration`, and elsewhere the lifecycle check forbids the command. -/
theorem getpdResult : Obligations.GetpdResult := by
  obtain ⟨hdecode, -⟩ := ignoredOperandSameCommand
  refine ⟨fun imm => ?word, rfl, fun s => ⟨fun hl => ?active, exec_violation_of_not_isCreate rfl s⟩⟩
  case word => obtain ⟨-, -, hgetpd, -⟩ := hdecode imm; exact hgetpd
  case active => rw [exec_active_of_not_isCreate rfl hl, allowedEvent, effect_getpd]

/-! ## SETPD and then GETPD -/

/-- The command that stands `k` cycles ahead at the ports is accepted in that cycle if the port is open then (R60). -/
theorem acceptsCommand_of_drop {s t : State} {k : Nat} {i : Instr} (hports : t.inputs = s.inputs.drop k)
    (hc : t.ctrl = .idle) (hr : (s.inputAt k).rst = false) (hv : (s.inputAt k).cmdValid = true)
    (hd : decode (s.inputAt k).cmd = .command i) : t.acceptsCommand i := by
  rw [← input_eq_inputAt_of_drop hports] at hr hv hd
  exact ⟨⟨hr, hv, hc⟩, hd⟩

/-- Settles O47: SETPD leaves the engine in ACTIVE and the port open, so the next edge is GETPD's. -/
theorem pulseDurationReadsBack : Obligations.PulseDurationReadsBack := by
  intro s imm hl hset hr hv hd
  have hfirst : step s = .next ((Event.setpd imm).effect s).nextCycle := step_of_guard (e := .setpd imm) ⟨hl, hset⟩
  obtain ⟨⟨-, -, hc⟩, -⟩ := hset
  have hget : State.acceptsCommand ((Event.setpd imm).effect s).nextCycle .getpd :=
    acceptsCommand_of_drop List.drop_one.symm hc hr hv hd
  have hsecond := step_of_guard (s := ((Event.setpd imm).effect s).nextCycle) (e := .getpd) ⟨hl, hget⟩
  exact ⟨_, (run_succ hfirst 1).trans (run_succ hsecond 0), rfl, rfl, rfl, rfl⟩

end Sys2Proof.Machine
end

section
/-! SUPPORT. RELEASE at its accepting edge (44_release.md R110). -/

namespace Sys2Proof.Machine

open Sys2Proof

/-- In ACTIVE a release gives back every owned pin, and reports OK exactly when no owned pin failed (R110). -/
theorem exec_release_active {s : State} (hl : s.life = .active) :
    exec .release s = .next
      { s with
        relFail := s.pinOwn &&& ~~~s.input.relOk, pinOwn := 0, life := .released, rspValid := true
        rspCode := if s.pinOwn &&& ~~~s.input.relOk = 0 then 0x0 else 0x3
        rspData := (s.pinOwn &&& ~~~s.input.relOk).setWidth 32 } := by
  rw [exec_active_of_not_isCreate rfl hl, allowedEvent, effect_release, failures_data, ite_not]
  rfl

/-- Settles O24: in ACTIVE every owned pin is given back, and elsewhere the lifecycle check forbids the command. -/
theorem releaseResult : Obligations.ReleaseResult := by
  obtain ⟨hdecode, -⟩ := ignoredOperandSameCommand
  refine ⟨fun imm => ?word, rfl, ignoredWhileBusy .release,
    fun s => ⟨exec_release_active, exec_violation_of_not_isCreate rfl s⟩⟩
  case word => obtain ⟨-, -, -, hrelease⟩ := hdecode imm; exact hrelease

end Sys2Proof.Machine
end

section
/-! SUPPORT. What is recorded and reported at an accepting edge (60_exceptions.md R120, R123, R125, R128): the lifecycle
table over all commands, and what has happened to the other registers under each report code. -/

namespace Sys2Proof.Machine

open Sys2Proof

/-- Settles O15: reset, the pulse FSM, an accepted word and a quiet edge all answer a next state. -/
theorem stepNeverStops : Obligations.StepNeverStops := step_next

/-! ## The lifecycle table -/

theorem isCreate_eq_false_iff (i : Instr) : isCreate i = false ↔ ∀ imm, i ≠ .create1 imm ∧ i ≠ .create2 imm := by
  cases i <;> simp [isCreate]

/-- A step command in ACTIVE records no fault, and where it reports it warns (R81, R90). -/
theorem stepEvent_reports_no_fault (d : Direction) (imm : Word) (s : State) :
    ((stepEvent d imm).effect s).eLife = s.eLife ∧
      (((stepEvent d imm).effect s).rspValid = true → ((stepEvent d imm).effect s).rspCode.toNat < 4) := by
  unfold stepEvent
  split <;> simp

/-- Without failures the code is OK, which like the failure's code is none of R123's. -/
theorem failures_code_lt {code : ReportCode} (h : code.bits.toNat < 4) (failed : PinVec) :
    (if failed ≠ 0 then code.bits else ReportCode.ok.bits).toNat < 4 := by
  split
  · exact h
  · decide

/-- A command that the lifecycle allows leaves `e_life` as it was and reports OK, a warning or failed pins (R123). -/
theorem allowedEvent_reports_no_fault (i : Instr) (s : State) :
    ((allowedEvent i).effect s).eLife = s.eLife ∧
      (((allowedEvent i).effect s).rspValid = true → ((allowedEvent i).effect s).rspCode.toNat < 4) := by
  cases i with
  | stepf imm => exact stepEvent_reports_no_fault .forward imm s
  | stepb imm => exact stepEvent_reports_no_fault .backward imm s
  | create1 imm | create2 imm => rw [allowedEvent, effect_create]; exact ⟨rfl, fun _ => failures_code_lt (by decide) _⟩
  | release => rw [allowedEvent, effect_release]; exact ⟨rfl, fun _ => failures_code_lt (by decide) _⟩
  | _ => simp [allowedEvent]

/-- Settles O25: a forbidden command is its lifecycle state's violation, and an allowed one is its event. -/
theorem lifecycleCheck : Obligations.LifecycleCheck := by
  intro i s
  rw [← isCreate_eq_true_iff, ← isCreate_eq_false_iff]
  refine ⟨fun hl hi => ?unbound, fun hl hi => ?active, fun hl => ?released, fun hallowed => ?allowed⟩
  case unbound => exact exec_of_violation (code := .eNotCreated) (by rw [hi, hl]; rfl)
  case active => exact exec_of_violation (code := .eAlreadyCreated) (by rw [hi, hl]; rfl)
  case released => exact exec_of_violation (code := .eReleased) (by rw [hl]; rfl)
  case allowed =>
    have hnone : lifeViolation (isCreate i) s.life = none := by
      obtain ⟨hl, hi⟩ | ⟨hl, hi⟩ := hallowed <;> rw [hi, hl] <;> rfl
    exact ⟨_, exec_of_allowed hnone, allowedEvent_reports_no_fault i s⟩

/-! ## Reports -/

/-- A violation's code is none of those that report failed pins (R120, R123). -/
theorem lifeViolation_bits_ne {c : Bool} {l : Life} {code : ReportCode} (h : lifeViolation c l = some code) :
    code.bits ≠ 0x2 ∧ code.bits ≠ 0x3 := by
  cases c <;> cases l <;> cases h <;> decide

/-- An operation that asked per pin and does not report OK has failed pins (R70, R110). -/
theorem ne_zero_of_failures_code {code : ReportCode} {failed : PinVec}
    (h : (if failed ≠ 0 then code.bits else ReportCode.ok.bits) ≠ 0) : failed ≠ 0 :=
  fun hnone => h (if_neg (not_not_intro hnone))

/-- Settles O45, event by event: a report of OK asks nothing, and any other code names what the event has written. -/
theorem reportsPrecise : Obligations.ReportsPrecise := by
  intro s t ha h hv
  by_cases hok : t.rspCode = 0
  · simp [hok]
  have hg := event_guard s
  have ht := eq_effect_of_step h
  rw [accepts_iff] at ha
  cases he : s.event <;> rw [he] at hg ha ht
  case reset | dwell | nextRepetition | completion | quiet => exact absurd ha Bool.false_ne_true
  case start d imm => rw [ht] at hv; exact absurd hv Bool.false_ne_true
  case hold | setpd | getpd => rw [ht] at hok; exact absurd rfl hok
  case reserved =>
    rw [ht]
    exact ⟨fun _ => ⟨rfl, fun _ => rfl⟩, nofun, nofun, reportCode_bits_le .eIllegal⟩
  case countWarning d imm =>
    rw [ht]
    exact ⟨fun _ => ⟨rfl, fun _ => rfl⟩, nofun, nofun, reportCode_bits_le .wCount⟩
  case violation code =>
    obtain ⟨i, -, hcode⟩ := hg
    obtain ⟨hacq, hrel⟩ := lifeViolation_bits_ne hcode
    rw [ht]
    exact ⟨fun _ => ⟨rfl, fun _ => rfl⟩, fun h2 => absurd h2 hacq, fun h3 => absurd h3 hrel, reportCode_bits_le code⟩
  case create m imm =>
    obtain ⟨hl, hi⟩ := hg
    rw [effect_create, failures_data] at ht
    rw [ht] at hok
    have hfailed : attempted m &&& ~~~s.input.acqOk ≠ 0 := ne_zero_of_failures_code hok
    rw [ht, if_pos hfailed]
    refine ⟨nofun, fun _ => ⟨hl, m, imm, attempted m, ?_, rfl, hfailed, rfl⟩, nofun, reportCode_bits_le .eAcq⟩
    cases m <;> exact hi
  case release =>
    obtain ⟨hl, hi⟩ := hg
    rw [effect_release, failures_data] at ht
    rw [ht] at hok
    have hfailed : s.pinOwn &&& ~~~s.input.relOk ≠ 0 := ne_zero_of_failures_code hok
    rw [ht, if_pos hfailed]
    exact ⟨nofun, nofun, fun _ => ⟨hl, hi, hfailed, rfl⟩, reportCode_bits_le .eRel⟩

end Sys2Proof.Machine
end

section
/-! SUPPORT. Reset and the quiet edge (70_reset_and_hazards.md R140, R141, R148), the create word held on the port
(R150), the state after a create command without failures (R146), and the step as R147's listing. -/

namespace Sys2Proof.Machine

open Sys2Proof Sys2Proof.Certificates

/-! ## The fields of the word, and the lifecycle lines -/

/-- The listing's `op` is the opcode field (R55). -/
theorem toNat_shiftRight_cmd (w : CmdWord) : (w >>> 32).toNat = (opField w).toNat := by
  have hlt : w.toNat / 2 ^ 32 < 2 ^ 4 := by omega
  rw [opField, BitVec.extractLsb'_toNat, BitVec.toNat_ushiftRight, Nat.shiftRight_eq_div_pow, Nat.mod_eq_of_lt hlt]

/-- The listing's `imm` is the operand field (R55). -/
theorem setWidth_cmd (w : CmdWord) : w.setWidth 32 = immField w :=
  BitVec.setWidth_eq_extractLsb' (by decide)

/-- A command's opcode is none of the reserved ones (R59). -/
theorem opcode_assigned (i : Instr) : ¬(i.opcode.toNat = 0x0 ∨ 0xA ≤ i.opcode.toNat) := by
  cases i <;> simp [Instr.opcode]

/-- The create commands are the opcodes 1 and 2 (R56). -/
theorem opcode_create_iff (i : Instr) : (i.opcode.toNat = 0x1 ∨ i.opcode.toNat = 0x2) ↔ isCreate i = true := by
  cases i <;> simp [Instr.opcode, isCreate]

/-- R123's table, row by row: where a command is forbidden, and the code of the violation. -/
theorem lifeViolation_eq_some_iff {c : Bool} {l : Life} {code : ReportCode} :
    lifeViolation c l = some code ↔
      (l = .unbound ∧ c = false ∧ code = .eNotCreated) ∨ (l = .active ∧ c = true ∧ code = .eAlreadyCreated) ∨
        (l = .released ∧ code = .eReleased) := by
  cases c <;> cases l <;> simp [lifeViolation, eq_comm]

/-! ## The listing of R147, line by line

The listing writes its registers over the quiet edge's, where `rsp_valid` is already 0 and the cycle has passed. -/

theorem listingCommand_reserved {op : Nat} (h : op = 0x0 ∨ 0xA ≤ op) (imm : Word) (acqOk relOk : PinVec) (s : State) :
    listingCommand op imm acqOk relOk s.noReport.nextCycle = (Event.reserved.effect s).nextCycle :=
  if_pos h

/-- The listing's three lifecycle lines are the lifecycle check (R123). -/
theorem listingCommand_violation {i : Instr} {s : State} {code : ReportCode}
    (h : lifeViolation (isCreate i) s.life = some code) (imm : Word) (acqOk relOk : PinVec) :
    listingCommand i.opcode.toNat imm acqOk relOk s = listingReport code.bits 0 { s with eLife := true } := by
  rw [listingCommand, if_neg (opcode_assigned i)]
  simp only [opcode_create_iff]
  obtain ⟨hl, hi, rfl⟩ | ⟨hl, hi, rfl⟩ | ⟨hl, rfl⟩ := lifeViolation_eq_some_iff.1 h
  · exact if_pos ⟨hl, ne_true_of_eq_false hi⟩
  · rw [if_neg (by simp [hl]), if_pos ⟨hl, hi⟩]
    rfl
  · rw [if_neg (by simp [hl]), if_neg (by simp [hl]), if_pos hl]
    rfl

theorem listingCreate_eq (m : Bool) (imm : Word) (s : State) :
    listingCreate m (attempted m) imm s.input.acqOk s.noReport.nextCycle =
      ((Event.create m imm).effect s).nextCycle := by
  rw [effect_create, failures_data]
  rfl

theorem listingStepCommand_eq (d : Direction) (imm : Word) (s : State) :
    listingStepCommand d imm s.noReport.nextCycle = ((stepEvent d imm).effect s).nextCycle := by
  rw [stepEvent_effect, listingStepCommand, ← nextPhase_eq]
  obtain ⟨hn, hwarn⟩ | ⟨hn, hstart⟩ := stepCommand_cases d imm s
  · rw [if_pos hn, hwarn]
    rfl
  · rw [if_neg (not_lt.2 hn), hstart]
    rfl

theorem listingRelease_eq (s : State) :
    listingRelease s.input.relOk s.noReport.nextCycle = (Event.release.effect s).nextCycle := by
  rw [effect_release, failures_data]
  rfl

/-- Past the lifecycle lines the listing does what the command's event does (R61). -/
theorem listingCommand_allowed {i : Instr} {s : State} (h : lifeViolation (isCreate i) s.life = none) {imm : Word}
    (himm : i.takesOperand = true → imm = i.operand) :
    listingCommand i.opcode.toNat imm s.input.acqOk s.input.relOk s.noReport.nextCycle =
      ((allowedEvent i).effect s).nextCycle := by
  have hl := (lifeViolation_none_iff _ _).1 h
  have hreleased : s.noReport.nextCycle.life ≠ .released := ne_of_eq_of_ne hl (by split <;> decide)
  rw [listingCommand, if_neg (opcode_assigned i)]
  simp only [opcode_create_iff]
  rw [if_neg (by simp [hl]), if_neg (by simp [hl]), if_neg hreleased]
  cases i with
  | create1 a => rw [himm rfl]; exact listingCreate_eq false a s
  | create2 a => rw [himm rfl]; exact listingCreate_eq true a s
  | stepf a => rw [himm rfl]; exact listingStepCommand_eq .forward a s
  | stepb a => rw [himm rfl]; exact listingStepCommand_eq .backward a s
  | setpd a => rw [himm rfl]; rfl
  | holdon | holdoff | getpd => rfl
  | release => exact listingRelease_eq s

theorem listingCommand_command {i : Instr} {s : State} (h : decode s.input.cmd = .command i) :
    listingCommand (s.input.cmd >>> 32).toNat (s.input.cmd.setWidth 32) s.input.acqOk s.input.relOk
        s.noReport.nextCycle = ((commandEvent s.life i).effect s).nextCycle := by
  obtain ⟨hop, himm⟩ := (decode_eq_command_iff _ i).1 h
  rw [toNat_shiftRight_cmd, setWidth_cmd, hop, commandEvent]
  cases hv : lifeViolation (isCreate i) s.life with
  | none => exact listingCommand_allowed hv himm
  | some code => exact listingCommand_violation (s := s.noReport.nextCycle) hv _ _ _

/-- The listing's pulse lines are dwell, the next repetition and the completion (R86 to R88). -/
theorem listingPulse_eq (s : State) : listingPulse s.noReport.nextCycle = (pulseEdge s).nextCycle := by
  rw [listingPulse, ← nextPhase_eq]
  obtain ⟨ht, hp⟩ | ⟨ht, hs, hp⟩ | ⟨ht, hs, hp⟩ := pulseEdge_cases s <;> rw [hp]
  · exact if_pos ht
  · exact (if_neg (not_not_intro ht)).trans (if_pos hs)
  · have hen : (s.enLvl && s.holdEnabled) = if s.holdEnabled then s.enLvl else false := by
      cases s.enLvl <;> cases s.holdEnabled <;> rfl
    rw [completeStep, ← hen]
    exact (if_neg (not_not_intro ht)).trans (if_neg (not_not_intro hs))

/-- While a step command is in progress the edge is the pulse FSM's, unless it resets (R130). -/
theorem step_of_pulse {s : State} (hr : s.input.rst = false) (hc : s.ctrl = .pulse) :
    step s = .next (pulseEdge s).nextCycle := by
  rw [step, clockEdge, edge, hr, hc]
  rfl

/-- An accepted word, reserved or not, does what the listing's lines from `op` on do (R59, R61). -/
theorem step_of_accepts {s : State} (h : s.accepts) :
    step s = .next (listingCommand (s.input.cmd >>> 32).toNat (s.input.cmd.setWidth 32) s.input.acqOk s.input.relOk
      s.noReport.nextCycle) := by
  cases hd : decode s.input.cmd with
  | command i => rw [step_eq_effect, event_of_acceptsCommand ⟨h, hd⟩, listingCommand_command hd]
  | rejected e =>
    have hop := (decode_rejected_iff _).1 ⟨e, hd⟩
    rw [step_of_guard (e := .reserved) ⟨h, hop⟩, toNat_shiftRight_cmd, listingCommand_reserved hop]

theorem Ctrl.eq_idle_of_ne_pulse {c : Ctrl} (h : c ≠ .pulse) : c = .idle := by
  cases c with
  | idle => rfl
  | pulse => exact absurd rfl h

/-- Settles O14, along the listing's branches: reset, the pulse FSM, no word, and an accepted word. -/
theorem stepMatchesListing : Obligations.StepMatchesListing := by
  intro s
  rw [listingStep]
  split_ifs with hr hc hv
  · exact step_of_rst hr
  · rw [step_of_pulse (Bool.eq_false_of_not_eq_true hr) hc, ← listingPulse_eq]
    rfl
  · exact step_of_guard (e := .quiet) ⟨Bool.eq_false_of_not_eq_true hr, Ctrl.eq_idle_of_ne_pulse hc, hv⟩
  · exact step_of_accepts
      ⟨Bool.eq_false_of_not_eq_true hr, Bool.eq_true_of_not_eq_false hv, Ctrl.eq_idle_of_ne_pulse hc⟩

/-! ## Reset and the quiet edge -/

/-- Settles O11: the edge is the quiet event, which only withdraws the response. -/
theorem quiescentEdge : Obligations.QuiescentEdge :=
  fun _ hr hc hv => step_of_guard (e := .quiet) ⟨hr, hc, hv⟩

/-- Settles O12: a reset edge loads the reset values, and the ports move on. -/
theorem resetEdge : Obligations.ResetEdge :=
  fun _ hr => step_of_rst hr

/-- Settles O13: the outputs are read off the reset values, and with no pin owned every pin is undriven. -/
theorem resetOutputs : Obligations.ResetOutputs :=
  ⟨rfl, pinLevel_eq_z_of_pinOwn_zero rfl⟩

/-! ## The create commands -/

/-- A create command is the one of its number of enable pins (R71, R72). -/
theorem eq_createInstr {i : Instr} {imm : Word} (h : i = .create1 imm ∨ i = .create2 imm) :
    ∃ m, i = createInstr m imm :=
  h.elim (⟨false, ·⟩) (⟨true, ·⟩)

/-- Settles O48: the first edge leaves the engine in ACTIVE and the port open, so the second accepts the same command
and finds it forbidden. -/
theorem heldCreateIsExecutedAgain : Obligations.HeldCreateIsExecutedAgain := by
  intro s i imm hi hl hacc hheld
  obtain ⟨m, rfl⟩ := eq_createInstr hi
  have hfirst := step_of_guard (e := .create m imm) ⟨hl, hacc⟩
  rw [effect_create] at hfirst
  obtain ⟨⟨hr, hv, hc⟩, hd⟩ := hacc
  rw [← hheld] at hr hv hd
  refine ⟨_, hfirst, rfl, rfl, rfl, rfl, (run_succ hfirst 1).trans (run_succ ?second 0)⟩
  case second =>
    refine step_of_guard (e := .violation .eAlreadyCreated) ⟨createInstr m imm, ?accepted, ?forbidden⟩
    case accepted => exact acceptsCommand_of_drop (s := s) (k := 1) List.drop_one.symm hc hr hv hd
    case forbidden => rw [isCreate_createInstr]; rfl

/-- `s` after a create command whose every acquisition succeeds: it owns what it attempted, and reports OK (R70). -/
def State.created (s : State) (m : Bool) (imm : Word) : State :=
  { s with
    pinOwn := attempted m, acqFail := 0, twoEn := m, phaseState := 0, direction := .forward, holdEnabled := false
    enLvl := false, pulseDuration := imm, life := .active, rspValid := true, rspCode := 0x0, rspData := 0 }

theorem step_created {s : State} {m : Bool} {imm : Word} (hl : s.life = .unbound)
    (h : s.acceptsCommand (createInstr m imm)) (hacq : attempted m &&& s.input.acqOk = attempted m) :
    step s = .next (s.created m imm).nextCycle := by
  have hfail : attempted m &&& ~~~s.input.acqOk = 0 := by
    have hall : attempted m &&& s.input.acqOk = attempted m &&& BitVec.allOnes 6 := by rw [hacq, BitVec.and_allOnes]
    rw [and_not_eq_of_and_eq hall, BitVec.not_allOnes, BitVec.and_zero]
    rfl
  rw [step_of_guard (e := .create m imm) ⟨hl, h⟩, effect_create, hacq, hfail]
  rfl

/-- With every attempted pin owned, the row of phase state 0 and the enable level low, EN1 is driven only where it was
attempted (R42, R43, R70). -/
theorem pinLevels_of_attempted {t : State} {m : Bool} (hown : t.pinOwn = attempted m) (hps : t.phaseState = 0)
    (hen : t.enLvl = false) :
    t.pinLevel .a = .high ∧ t.pinLevel .b = .low ∧ t.pinLevel .c = .high ∧ t.pinLevel .d = .low ∧
      t.pinLevel .en0 = .low ∧ t.pinLevel .en1 = if m then .low else .z := by
  have howned : ∀ i : Fin 5, t.pinOwn.getLsbD i = true := by rw [hown]; cases m <;> decide
  have hen1 : t.pinOwn.getLsbD 5 = m := by rw [hown]; cases m <;> decide
  obtain ⟨hz, ha, hb, hc, hd, hlow0, hlow1⟩ := pinLevels t
  rw [hps] at ha hb hc hd
  rw [hen] at hlow0 hlow1
  refine ⟨ha (howned 0), hb (howned 1), hc (howned 2), hd (howned 3), hlow0 (howned 4), ?_⟩
  cases m with
  | false => exact (hz .en1).2 hen1
  | true => exact hlow1 hen1

/-- R146's state for either create command. -/
theorem create_success {s : State} {m : Bool} {imm : Word} (hl : s.life = .unbound)
    (hfault : s.noFaultRecorded = true) (h : s.acceptsCommand (createInstr m imm))
    (hacq : attempted m &&& s.input.acqOk = attempted m) :
    ∃ t, step s = .next t ∧ t.life = .active ∧ t.phaseState = 0 ∧
      t.pinLevel .a = .high ∧ t.pinLevel .b = .low ∧ t.pinLevel .c = .high ∧ t.pinLevel .d = .low ∧
      t.pinLevel .en0 = .low ∧ t.pinLevel .en1 = (if m then .low else .z) ∧ t.direction = .forward ∧
      t.holdEnabled = false ∧ t.pulseDuration = imm ∧ t.ctrl = .idle ∧ t.noFaultRecorded = true ∧
      t.rspValid = true ∧ t.rspCode = 0x0 := by
  obtain ⟨ha, hb, hc, hd, hen0, hen1⟩ := pinLevels_of_attempted (t := (s.created m imm).nextCycle) rfl rfl rfl
  have hstep := step_created hl h hacq
  obtain ⟨⟨-, -, hidle⟩, -⟩ := h
  exact ⟨_, hstep, rfl, rfl, ha, hb, hc, hd, hen0, hen1, rfl, rfl, rfl, hidle, hfault, rfl, rfl⟩

/-- Settles O56: CREATE1 attempts all pins but EN1, and CREATE2 every pin. -/
theorem successfulCreate : Obligations.SuccessfulCreate :=
  fun _ _ hl hfault =>
    ⟨fun h hacq => create_success (m := false) hl hfault h ((BitVec.and_comm _ _).trans hacq),
      fun h hacq => create_success (m := true) hl hfault h (hacq ▸ rfl)⟩

end Sys2Proof.Machine
end
